-- ==== Sys2Proof/Word.lean ====
section
/-!
DEFINITION. The words of the codec block: one abbreviation for each width that spec/00_scope.md rules R7
and R8 fix. Every value of the block is unsigned (R11), and bit 0 is the least significant bit (R9).
-/

namespace Sys2Proof

/-- A byte of a payload, an address or a message field: 8 bits (R7, R12). -/
abbrev Byte := BitVec 8

/-- A numeric operand on an `a_*` port: `ARGW` = 32 bits (R8), wider than the field it feeds, so that the
masking of over-wide operands (R71) can be seen. -/
abbrev Arg := BitVec 32

/-- The operation select `op`: `OPW` = 5 bits (R8). -/
abbrev OpCode := BitVec 5

/-- The `status` port: `STW` = 3 bits (R8). -/
abbrev StatusCode := BitVec 3

/-- A payload length port: `LENW` = 4 bits (R8), so that the illegal lengths 9 to 15 can be presented. -/
abbrev Len := BitVec 4

/-- A frame identifier: 29 bits (R7, R60). -/
abbrev Identifier := BitVec 29

/-- A priority: 3 bits (R7). -/
abbrev Priority := BitVec 3

/-- A protocol number, or the protocol-number region of an identifier: 18 bits (R7, R60). -/
abbrev ProtocolNumber := BitVec 18

/-- A header word: 16 bits (R7, R62). -/
abbrev HeaderWord := BitVec 16

/-- A manufacturer code: 11 bits (R7). -/
abbrev ManufacturerCode := BitVec 11

/-- An industry code: 3 bits (R7). -/
abbrev IndustryCode := BitVec 3

end Sys2Proof
end

