-- ==== Sys2Proof/Syntax.lean ====
section
/-!
DEFINITION. The syntax of the block: its request and response ports (spec/10_state.md rules R33 and R34),
what a host presents, and `Instr`, one constructor for each row of spec/opcode_table.json.
-/

namespace Sys2Proof

/-- The eight payload byte lanes of a request (`f_data[0]` to `f_data[7]`, R33) or of a response
(`r_data[0]` to `r_data[7]`, R34). -/
structure Lanes where
  d0 : Byte
  d1 : Byte
  d2 : Byte
  d3 : Byte
  d4 : Byte
  d5 : Byte
  d6 : Byte
  d7 : Byte
  deriving DecidableEq, Repr, Inhabited

/-- The operand frame as it stands on the `f_*` ports (R33): raw, since `fLen` can be 9 to 15, for which
no Frame exists (R35). -/
structure OperandFrame where
  /-- `f_id`: the identifier of the operand frame, and the operand of `DECOMPOSE_ID`. -/
  fId : Identifier
  /-- `f_len`: the payload length, and the byte count given to `UNPACK_HDR`. -/
  fLen : Len
  /-- `f_data[0..7]`. -/
  fData : Lanes
  /-- `f_prio`. -/
  fPrio : Priority
  /-- `f_src`. -/
  fSrc : Byte
  /-- `f_dst`. -/
  fDst : Byte
  deriving DecidableEq, Repr, Inhabited

/-- The request ports (R33): every port always carries a value (R85). -/
structure Request where
  op : OpCode
  aPn : Arg
  aSrc : Arg
  aDst : Arg
  aPrio : Arg
  aMfr : Arg
  aInd : Arg
  aF0 : Arg
  aF1 : Arg
  aF2 : Arg
  aF3 : Arg
  aF4 : Arg
  f : OperandFrame
  deriving DecidableEq, Repr, Inhabited

/-- The response ports (R34). -/
structure ResponsePorts where
  status : StatusCode
  rBool : BitVec 1
  rKind : Byte
  rMfr : ManufacturerCode
  rInd : IndustryCode
  rG0 : Byte
  rG1 : Byte
  rG2 : Byte
  rG3 : Byte
  rG4 : Byte
  rId : Identifier
  rLen : Len
  rData : Lanes
  rPrio : Priority
  rSrc : Byte
  rDst : Byte
  rPn : ProtocolNumber
  deriving DecidableEq, Repr, Inhabited

/-- What a host presents to the block: a request (R26), or a bare datum of one of the block's formats, for
the rows of spec/opcode_table.json that are formats and not operations (log entry 3, DESIGN CHOICE, unsafe). -/
inductive Input where
  /-- A request on the ports (R33, R68). -/
  | request (r : Request)
  /-- A 29-bit identifier, given to the identifier codec (R60). -/
  | identifier (id : Identifier)
  /-- A 16-bit header word, given to the header codec (R62). -/
  | headerWord (w : HeaderWord)
  /-- Payload bytes, offset 0 first, given to the demultiplexer (R47, R75). -/
  | payload (p : List Byte)
  /-- A status code (R141). -/
  | status (c : StatusCode)
  deriving DecidableEq, Repr, Inhabited

/-- The instructions: the sixteen operations (R74) with the operands each one reads (R68), the sixteen
unassigned operation codes (R82), the payload formats of the demultiplexer (R75), the identifier and header
word formats (R60, R62) and the status codes (R141). -/
inductive Instr where
  /-- `op = 0x00` (R90). -/
  | buildId (aPn aSrc aDst aPrio : Arg)
  /-- `op = 0x01` (R91). -/
  | decomposeId (fId : Identifier)
  /-- `op = 0x02` (R100). -/
  | packHdr (aMfr aInd : Arg)
  /-- `op = 0x03` (R101): a byte count and the first two bytes of the buffer. -/
  | unpackHdr (fLen : Len) (b0 b1 : Byte)
  /-- `op = 0x04` (R110). -/
  | makeFrame (f : OperandFrame)
  /-- `op = 0x05` (R112). -/
  | isRecognized (f : OperandFrame)
  /-- `op = 0x06` (R113). -/
  | kindOf (f : OperandFrame)
  /-- `op = 0x07` (R135). -/
  | parseAny (f : OperandFrame)
  /-- `op = 0x09` (R121). -/
  | encSimpleAction (aSrc aDst actionId switchId : Arg)
  /-- `op = 0x0A` (R122); `a_dst` is not read. -/
  | encStateInfo (aSrc switchId switchState switchType : Arg)
  /-- `op = 0x0B` (R123). -/
  | encCustomHsb (aSrc aDst actionId switchId hue saturation brightness : Arg)
  /-- `op = 0x0C` (R124). -/
  | encStartPattern (aSrc aDst switchId patternId : Arg)
  /-- `op = 0x11` (R131). -/
  | decSimpleAction (f : OperandFrame)
  /-- `op = 0x12` (R132). -/
  | decStateInfo (f : OperandFrame)
  /-- `op = 0x13` (R133). -/
  | decCustomHsb (f : OperandFrame)
  /-- `op = 0x14` (R134). -/
  | decStartPattern (f : OperandFrame)
  /-- `op = 0x08`, unassigned (R82). -/
  | unassignedOp08
  /-- `op = 0x0D`, unassigned (R82). -/
  | unassignedOp0D
  /-- `op = 0x0E`, unassigned (R82). -/
  | unassignedOp0E
  /-- `op = 0x0F`, unassigned (R82). -/
  | unassignedOp0F
  /-- `op = 0x10`, unassigned (R82). -/
  | unassignedOp10
  /-- `op = 0x15`, unassigned (R82). -/
  | unassignedOp15
  /-- `op = 0x16`, unassigned (R82). -/
  | unassignedOp16
  /-- `op = 0x17`, unassigned (R82). -/
  | unassignedOp17
  /-- `op = 0x18`, unassigned (R82). -/
  | unassignedOp18
  /-- `op = 0x19`, unassigned (R82). -/
  | unassignedOp19
  /-- `op = 0x1A`, unassigned (R82). -/
  | unassignedOp1A
  /-- `op = 0x1B`, unassigned (R82). -/
  | unassignedOp1B
  /-- `op = 0x1C`, unassigned (R82). -/
  | unassignedOp1C
  /-- `op = 0x1D`, unassigned (R82). -/
  | unassignedOp1D
  /-- `op = 0x1E`, unassigned (R82). -/
  | unassignedOp1E
  /-- `op = 0x1F`, unassigned (R82). -/
  | unassignedOp1F
  /-- Format `SA` (R64): header word bits 12:11, the fields, the reserved byte, the bytes beyond length 6. -/
  | payloadSimpleAction (hdrReserved : BitVec 2) (actionId switchId reserved : Byte) (extra : List Byte)
  /-- Format `SI` (R65): as above, the bytes beyond length 7. -/
  | payloadStateInfo (hdrReserved : BitVec 2) (switchId switchState switchType reserved : Byte) (extra : List Byte)
  /-- Format `HSB` (R66): all eight bytes are used. -/
  | payloadCustomHsb (hdrReserved : BitVec 2) (actionId switchId hue saturation brightness : Byte)
  /-- Format `SP` (R67): as `SA`. -/
  | payloadStartPattern (hdrReserved : BitVec 2) (switchId patternId reserved : Byte) (extra : List Byte)
  /-- A recognized payload of the reserved kind 5 (R79): no layout, so the bytes after the kind tag. -/
  | payloadReservedKind5 (hdrReserved : BitVec 2) (rest : List Byte)
  /-- A recognized payload of the reserved kind 6 (R79). -/
  | payloadReservedKind6 (hdrReserved : BitVec 2) (rest : List Byte)
  /-- A recognized payload of the reserved kind 7 (R79). -/
  | payloadReservedKind7 (hdrReserved : BitVec 2) (rest : List Byte)
  /-- A recognized payload of the reserved kind 8 (R79). -/
  | payloadReservedKind8 (hdrReserved : BitVec 2) (rest : List Byte)
  /-- A recognized payload of the reserved kind 16 (R79). -/
  | payloadReservedKind16 (hdrReserved : BitVec 2) (rest : List Byte)
  /-- A recognized payload of an unassigned kind: 0, 9 to 15, 17 to 255 (R80). -/
  | payloadUnassignedKind (hdrReserved : BitVec 2) (kind : Byte) (rest : List Byte)
  /-- The 29-bit identifier format (R60): priority, the 18-bit region, source. -/
  | identifier (priority : Priority) (region : ProtocolNumber) (source : Byte)
  /-- The 16-bit header word format (R62): bits 10:0, bits 12:11, bits 15:13. -/
  | headerWord (manufacturerCode : ManufacturerCode) (reserved : BitVec 2) (industryCode : IndustryCode)
  /-- Status 0, `OK` (R141). -/
  | statusOk
  /-- Status 1, `ABSENT` (R141, R144). -/
  | statusAbsent
  /-- Status 2, `CONSTRUCTION_ERROR` (R141, R142). -/
  | statusConstructionError
  /-- Status 3, `MALFORMED_HEADER` (R141, R143). -/
  | statusMalformedHeader
  /-- Status 4, `ILLEGAL_OP` (R141, R145). -/
  | statusIllegalOp
  deriving DecidableEq, Repr

end Sys2Proof
end

