-- ==== Sys2Proof/Config.lean ====
section
/-!
DEFINITION. The wired constants of the block (spec/00_scope.md rule R6: no operation can change them), the
labels that the spec gives some raw byte values, the one open parameter, and the free values of the ports
that no operation drives.
-/

namespace Sys2Proof.Config

/-- `MFR_CODE`, the manufacturer code of a recognized payload (R6). -/
abbrev mfrCode : ManufacturerCode := 1512

/-- `IND_CODE`, the industry code of a recognized payload (R6). -/
abbrev indCode : IndustryCode := 4

/-- `HDR_WORD`, the header word of the two constants (R6, R103): payload bytes `E8 85`. -/
abbrev hdrWord : HeaderWord := 0x85E8

/-- `PROTOCOL_NUMBER`, the protocol number of every frame an encoder builds (R6). -/
abbrev protocolNumber : ProtocolNumber := 61184

/-- `DEFAULT_PRIORITY`, the priority of every encoder and of the written notation (R6, R85). -/
abbrev defaultPriority : Priority := 6

/-- `BROADCAST`, the destination that denotes broadcast (R6). -/
abbrev broadcast : Byte := 255

/-- `MAX_PAYLOAD`, the largest payload length of a Frame (R6). -/
abbrev maxPayload : Nat := 8

/-- `MIN_RECOGNIZED`, the smallest payload length of a recognized frame (R6). -/
abbrev minRecognized : Nat := 3

/-- `KIND_SIMPLE_ACTION` (R6). -/
abbrev kindSimpleAction : Byte := 1

/-- `KIND_STATE_INFO` (R6). -/
abbrev kindStateInfo : Byte := 2

/-- `KIND_CUSTOM_HSB` (R6). -/
abbrev kindCustomHsb : Byte := 3

/-- `KIND_START_PATTERN` (R6). -/
abbrev kindStartPattern : Byte := 4

/-- The required payload length of SimpleAction (R6, R75). -/
abbrev lenSimpleAction : Nat := 6

/-- The required payload length of StateInfo (R6, R75). -/
abbrev lenStateInfo : Nat := 7

/-- The required payload length of CustomHSB (R6, R75). -/
abbrev lenCustomHsb : Nat := 8

/-- The required payload length of StartPattern (R6, R75). -/
abbrev lenStartPattern : Nat := 6

/-- The kind tags reserved by the protocol, with no decoder in this block (R32, R79): output-channel
status, bin, PWM, PLI and PLI-T2HSB. -/
abbrev reservedKinds : List Byte := [5, 6, 7, 8, 16]

/-- The action `ON`; with `actionT2Hsb` one of the two action ids whose value the source gives (R31).
No operation looks at it. -/
abbrev actionOn : Byte := 2

/-- The action `T2HSB`, "transition to HSB" (R31). -/
abbrev actionT2Hsb : Byte := 8

/-- The label `Released` of a `switchState` (R30); like the four labels below it names a raw byte and no
operation looks at it. -/
abbrev switchReleased : Byte := 0

/-- The label `Pressed` of a `switchState` (R30). -/
abbrev switchPressed : Byte := 1

/-- The label `Held` of a `switchState` (R30). -/
abbrev switchHeld : Byte := 2

/-- The label `Momentary` of a `switchType` (R30). -/
abbrev switchMomentary : Byte := 0

/-- The label `Latching` of a `switchType` (R30). -/
abbrev switchLatching : Byte := 1

/-- The open parameter `DST_TEST_RAW` (spec/92_eei_decisions.md D11, U15), at its default: the destination
is compared with 255 after masking (R71, R90). -/
def dstTestRaw : Bool := false

/-- FREE VALUE (log entry 4, DESIGN CHOICE, safe): the values of the response ports that nothing drives (R36, R37, R179). The
spec leaves them unspecified and nothing constrains them. -/
opaque undrivenPorts : Nat → ResponsePorts

end Sys2Proof.Config
end

