-- ==== Sys2Proof/Machine/Operands.lean ====
section
/-!
DEFINITION. Operand forms: masking an over-wide operand (R71), placing and extracting the fields of the
identifier and of the header word (R60, R62, R72, R73), the payload of an operand frame (R35), and the
payload accesses `MemRead` and `MemWrite` (R14).
-/

namespace Sys2Proof.Machine

/-- `mask_w(a)`, that is `a mod 2^w` (R13, R71). -/
def mask (w : Nat) (a : Arg) : BitVec w := a.setWidth w

/-! ## The identifier (R60) -/

/-- Whether a destination operand is broadcast. With `raw = false` the masked value is tested (R71, R90);
`raw = true` is the open alternative `DST_TEST_RAW` of spec/92_eei_decisions.md D11. -/
def isBroadcast (raw : Bool) (aDst : Arg) : Bool :=
  if raw then aDst == 255 else mask 8 aDst == Config.broadcast

/-- The 18-bit protocol-number region: the low byte of the protocol number is replaced by the destination
unless that is broadcast (R61, R90). -/
def region (pn : ProtocolNumber) (dst : Byte) (toAll : Bool) : ProtocolNumber :=
  if toAll then pn else (pn &&& 0x3FF00#18) ||| dst.setWidth 18

/-- Placing the three fields of an identifier: `(prio << 26) | (region << 8) | src` (R72). -/
def joinIdentifier (prio : Priority) (reg : ProtocolNumber) (src : Byte) : Identifier :=
  (prio.setWidth 29 <<< 26) ||| (reg.setWidth 29 <<< 8) ||| src.setWidth 29

/-- `buildIdentifier` with the parameter `DST_TEST_RAW` as an argument (R90, D11). -/
def buildIdentifierWith (raw : Bool) (aPn aSrc aDst aPrio : Arg) : Identifier :=
  joinIdentifier (mask 3 aPrio) (region (mask 18 aPn) (mask 8 aDst) (isBroadcast raw aDst)) (mask 8 aSrc)

/-- `buildIdentifier` (R90), with the parameter at its default. -/
def buildIdentifier (aPn aSrc aDst aPrio : Arg) : Identifier :=
  buildIdentifierWith Config.dstTestRaw aPn aSrc aDst aPrio

/-- `id[28:26]` (R73, R91). -/
def idPriority (id : Identifier) : Priority := id.extractLsb' 26 3

/-- `id[25:8]`, the raw region (R73, R91). -/
def idRegion (id : Identifier) : ProtocolNumber := id.extractLsb' 8 18

/-- `id[7:0]` (R73, R91). -/
def idSource (id : Identifier) : Byte := id.extractLsb' 0 8

/-! ## The header word (R62) -/

/-- Placing the fields of a header word: manufacturer code in bits 10:0, the reserved bits 12:11, industry
code in bits 15:13 (R62, R72). -/
def joinHeaderWord (mfr : ManufacturerCode) (reserved : BitVec 2) (ind : IndustryCode) : HeaderWord :=
  mfr.setWidth 16 ||| (reserved.setWidth 16 <<< 11) ||| (ind.setWidth 16 <<< 13)

/-- The header word that `packHeader` makes: both operands masked, bits 12:11 zero (R78, R100). -/
def packHeaderWord (aMfr aInd : Arg) : HeaderWord :=
  joinHeaderWord (mask 11 aMfr) 0 (mask 3 aInd)

/-- `word[10:0]` (R73, R101). -/
def headerManufacturer (w : HeaderWord) : ManufacturerCode := w.extractLsb' 0 11

/-- `word[12:11]`, the reserved bits (R62, R78). -/
def headerReserved (w : HeaderWord) : BitVec 2 := w.extractLsb' 11 2

/-- `word[15:13]` (R73, R101). -/
def headerIndustry (w : HeaderWord) : IndustryCode := w.extractLsb' 13 3

/-- The two bytes of a header word in payload order, low byte first (R42, R63). -/
def wordBytes (w : HeaderWord) : List Byte := [w.extractLsb' 0 8, w.extractLsb' 8 8]

/-- The header word from payload bytes 0 and 1, little-endian (R42). -/
def wordOfBytes (b0 b1 : Byte) : HeaderWord := b1 ++ b0

/-! ## Payload accesses (R14) -/

/-- `MemRead(p, off, 1)`: none where the offset is outside the payload. -/
def memReadByte (p : List Byte) (off : Nat) : Option Byte := p[off]?

/-- `MemRead(p, 0, 2)`: the header word; none where fewer than two bytes stand in the buffer. -/
def memReadWord (p : List Byte) : Option HeaderWord :=
  match p with
  | b0 :: b1 :: _ => some (wordOfBytes b0 b1)
  | _ => none

/-- `MemWrite` of bytes at an offset of the payload under construction (R14). The encoders call it at the
offset that is the payload's length, so that the bytes are appended with no gap. -/
def memWrite (q : List Byte) (off : Nat) (bytes : List Byte) : List Byte :=
  q.take off ++ bytes ++ q.drop (off + bytes.length)

/-! ## Byte lanes (R33 to R35) -/

/-- The eight lanes in offset order. -/
def lanesToList (l : Lanes) : List Byte := [l.d0, l.d1, l.d2, l.d3, l.d4, l.d5, l.d6, l.d7]

/-- A payload on the lanes: lanes at and beyond its length are driven 0 (R35, D7). -/
def lanesOfPayload (p : List Byte) : Lanes where
  d0 := p.getD 0 0
  d1 := p.getD 1 0
  d2 := p.getD 2 0
  d3 := p.getD 3 0
  d4 := p.getD 4 0
  d5 := p.getD 5 0
  d6 := p.getD 6 0
  d7 := p.getD 7 0

/-- The payload of an operand frame with `f_len` at most 8: the first `f_len` lanes; the lanes beyond are
ignored (R35, R110). -/
def operandPayload (f : OperandFrame) : List Byte := (lanesToList f.fData).take f.fLen.toNat

/-! ## Payloads of the formats (R63 to R67) -/

/-- The two header bytes of a recognized payload whose header word has the given bits 12:11 (R62, R63). -/
def recognizedHeader (reserved : BitVec 2) : List Byte :=
  wordBytes (joinHeaderWord Config.mfrCode reserved Config.indCode)

/-- A recognized payload: the header bytes, the kind tag, then the bytes from offset 3 on (R63, R75). -/
def recognizedPayload (reserved : BitVec 2) (kind : Byte) (rest : List Byte) : List Byte :=
  recognizedHeader reserved ++ kind :: rest

end Sys2Proof.Machine
end

