-- ==== Sys2Proof/WellFormed.lean ====
section
/-!
DEFINITION. Which instructions are well formed. A request's operands are exactly as wide as their ports, so
every term of an operation is well formed; a payload format bounds its length (R40: at most 8 bytes), and an
unassigned kind is none of the kinds with a row of their own (R32).
-/

namespace Sys2Proof

/-- The kinds that have a row of their own: the four with a decoder and the five reserved ones (R75). -/
def assignedKinds : List Byte :=
  [Config.kindSimpleAction, Config.kindStateInfo, Config.kindCustomHsb, Config.kindStartPattern]
    ++ Config.reservedKinds

/-- The bytes after the kind tag fit into the payload (R40): three bytes stand before them. -/
def restFits (rest : List Byte) : Bool := decide (3 + rest.length ≤ Config.maxPayload)

/-- The instruction is one that a payload of at most 8 bytes, or a request, can be. -/
def Instr.WellFormed : Instr → Bool
  | .payloadSimpleAction _ _ _ _ extra => decide (Config.lenSimpleAction + extra.length ≤ Config.maxPayload)
  | .payloadStateInfo _ _ _ _ _ extra => decide (Config.lenStateInfo + extra.length ≤ Config.maxPayload)
  | .payloadStartPattern _ _ _ _ extra => decide (Config.lenStartPattern + extra.length ≤ Config.maxPayload)
  | .payloadReservedKind5 _ rest => restFits rest
  | .payloadReservedKind6 _ rest => restFits rest
  | .payloadReservedKind7 _ rest => restFits rest
  | .payloadReservedKind8 _ rest => restFits rest
  | .payloadReservedKind16 _ rest => restFits rest
  | .payloadUnassignedKind _ kind rest => restFits rest && !assignedKinds.contains kind
  | .buildId _ _ _ _ | .decomposeId _ | .packHdr _ _ | .unpackHdr _ _ _ | .makeFrame _ | .isRecognized _
  | .kindOf _ | .parseAny _ | .encSimpleAction _ _ _ _ | .encStateInfo _ _ _ _
  | .encCustomHsb _ _ _ _ _ _ _ | .encStartPattern _ _ _ _ | .decSimpleAction _ | .decStateInfo _
  | .decCustomHsb _ | .decStartPattern _ | .unassignedOp08 | .unassignedOp0D | .unassignedOp0E
  | .unassignedOp0F | .unassignedOp10 | .unassignedOp15 | .unassignedOp16 | .unassignedOp17
  | .unassignedOp18 | .unassignedOp19 | .unassignedOp1A | .unassignedOp1B | .unassignedOp1C
  | .unassignedOp1D | .unassignedOp1E | .unassignedOp1F | .payloadCustomHsb _ _ _ _ _ _
  | .identifier _ _ _ | .headerWord _ _ _ | .statusOk | .statusAbsent | .statusConstructionError
  | .statusMalformedHeader | .statusIllegalOp => true

end Sys2Proof
end

