-- ==== Sys2Proof/Decode.lean ====
section
/-!
DEFINITION. The decoder and, after it, the encoder. What a host presents (`Input`) becomes an instruction,
or is rejected by name: the operation select by the code table of R74 with R82, a payload by the kind-tag
map R75 and R76, an identifier and a header word by their layouts R60 and R62, a status code by R141.
-/

namespace Sys2Proof

/-- Why something presented is no row of the opcode table. -/
inductive DecodeError where
  /-- More than 8 payload bytes: no Frame exists (R27). -/
  | payloadTooLong
  /-- Fewer than 3 payload bytes: not recognized (R112). -/
  | payloadTooShort
  /-- The header word does not carry the manufacturer and industry constants (R112). -/
  | notRecognized
  /-- A recognized payload of kind 1 to 4 that is shorter than its kind requires (R83). -/
  | tooShortForKind
  /-- Status code 5, 6 or 7, which is never produced (R141). -/
  | statusNeverProduced
  deriving DecidableEq, Repr

/-! ## The decoder -/

/-- The instruction of a request: the operation by its select code (R74; the codes not in that table are
unassigned, R82), with the operand ports that the operation reads (R68) and no other (R36). -/
def decodeRequest (r : Request) : Instr :=
  match r.op.toNat with
  | 0x00 => .buildId r.aPn r.aSrc r.aDst r.aPrio
  | 0x01 => .decomposeId r.f.fId
  | 0x02 => .packHdr r.aMfr r.aInd
  | 0x03 => .unpackHdr r.f.fLen r.f.fData.d0 r.f.fData.d1
  | 0x04 => .makeFrame r.f
  | 0x05 => .isRecognized r.f
  | 0x06 => .kindOf r.f
  | 0x07 => .parseAny r.f
  | 0x08 => .unassignedOp08
  | 0x09 => .encSimpleAction r.aSrc r.aDst r.aF0 r.aF1
  | 0x0A => .encStateInfo r.aSrc r.aF0 r.aF1 r.aF2
  | 0x0B => .encCustomHsb r.aSrc r.aDst r.aF0 r.aF1 r.aF2 r.aF3 r.aF4
  | 0x0C => .encStartPattern r.aSrc r.aDst r.aF0 r.aF1
  | 0x0D => .unassignedOp0D
  | 0x0E => .unassignedOp0E
  | 0x0F => .unassignedOp0F
  | 0x10 => .unassignedOp10
  | 0x11 => .decSimpleAction r.f
  | 0x12 => .decStateInfo r.f
  | 0x13 => .decCustomHsb r.f
  | 0x14 => .decStartPattern r.f
  | 0x15 => .unassignedOp15
  | 0x16 => .unassignedOp16
  | 0x17 => .unassignedOp17
  | 0x18 => .unassignedOp18
  | 0x19 => .unassignedOp19
  | 0x1A => .unassignedOp1A
  | 0x1B => .unassignedOp1B
  | 0x1C => .unassignedOp1C
  | 0x1D => .unassignedOp1D
  | 0x1E => .unassignedOp1E
  | _ => .unassignedOp1F -- 0x1F, the one 5-bit code left

/-- SimpleAction from the bytes after the kind tag (R64); a shorter payload has not the format (R83). -/
def decodeSimpleActionRow (hdrReserved : BitVec 2) (rest : List Byte) : Except DecodeError Instr :=
  match rest with
  | a :: s :: r :: extra => .ok (.payloadSimpleAction hdrReserved a s r extra)
  | _ => .error .tooShortForKind

/-- StateInfo from the bytes after the kind tag (R65, R83). -/
def decodeStateInfoRow (hdrReserved : BitVec 2) (rest : List Byte) : Except DecodeError Instr :=
  match rest with
  | s :: st :: ty :: r :: extra => .ok (.payloadStateInfo hdrReserved s st ty r extra)
  | _ => .error .tooShortForKind

/-- CustomHSB from the bytes after the kind tag (R66, R83): of the at most five that a payload has, all. -/
def decodeCustomHsbRow (hdrReserved : BitVec 2) (rest : List Byte) : Except DecodeError Instr :=
  match rest with
  | [a, s, h, sa, b] => .ok (.payloadCustomHsb hdrReserved a s h sa b)
  | _ => .error .tooShortForKind

/-- StartPattern from the bytes after the kind tag (R67, R83). -/
def decodeStartPatternRow (hdrReserved : BitVec 2) (rest : List Byte) : Except DecodeError Instr :=
  match rest with
  | s :: p :: r :: extra => .ok (.payloadStartPattern hdrReserved s p r extra)
  | _ => .error .tooShortForKind

/-- The row of a recognized payload, from its kind tag and the bytes after it (R75). -/
def decodeKind (hdrReserved : BitVec 2) (kind : Byte) (rest : List Byte) : Except DecodeError Instr :=
  if kind = Config.kindSimpleAction then decodeSimpleActionRow hdrReserved rest
  else if kind = Config.kindStateInfo then decodeStateInfoRow hdrReserved rest
  else if kind = Config.kindCustomHsb then decodeCustomHsbRow hdrReserved rest
  else if kind = Config.kindStartPattern then decodeStartPatternRow hdrReserved rest
  else if kind = 5 then .ok (.payloadReservedKind5 hdrReserved rest)
  else if kind = 6 then .ok (.payloadReservedKind6 hdrReserved rest)
  else if kind = 7 then .ok (.payloadReservedKind7 hdrReserved rest)
  else if kind = 8 then .ok (.payloadReservedKind8 hdrReserved rest)
  else if kind = 16 then .ok (.payloadReservedKind16 hdrReserved rest)
  else .ok (.payloadUnassignedKind hdrReserved kind rest)

/-- The row of a payload: at most 8 bytes, at least 3, and a header word with the constants in bits 10:0 and
15:13, bits 12:11 not compared (R76, R78). -/
def decodePayload (p : List Byte) : Except DecodeError Instr :=
  if Config.maxPayload < p.length then .error .payloadTooLong
  else
    match p with
    | b0 :: b1 :: kind :: rest =>
      if Machine.headerManufacturer (Machine.wordOfBytes b0 b1) = Config.mfrCode
          ∧ Machine.headerIndustry (Machine.wordOfBytes b0 b1) = Config.indCode then
        decodeKind (Machine.headerReserved (Machine.wordOfBytes b0 b1)) kind rest
      else .error .notRecognized
    | _ => .error .payloadTooShort

/-- The row of a status code (R141). -/
def decodeStatus (c : StatusCode) : Except DecodeError Instr :=
  match c.toNat with
  | 0 => .ok .statusOk
  | 1 => .ok .statusAbsent
  | 2 => .ok .statusConstructionError
  | 3 => .ok .statusMalformedHeader
  | 4 => .ok .statusIllegalOp
  | _ => .error .statusNeverProduced

/-- The decoder: the instruction of what a host presents. -/
def decode (x : Input) : Except DecodeError Instr :=
  match x with
  | .request r => .ok (decodeRequest r)
  | .identifier id => .ok (.identifier (Machine.idPriority id) (Machine.idRegion id) (Machine.idSource id))
  | .headerWord w =>
    .ok (.headerWord (Machine.headerManufacturer w) (Machine.headerReserved w) (Machine.headerIndustry w))
  | .payload p => decodePayload p
  | .status c => decodeStatus c

/-! ## The encoder -/

/-- Eight lanes of zeros. -/
def Lanes.zero : Lanes := ⟨0, 0, 0, 0, 0, 0, 0, 0⟩

/-- An operand frame of zeros. -/
def OperandFrame.zero : OperandFrame := ⟨0, 0, Lanes.zero, 0, 0, 0⟩

/-- A request with the given operation select and every operand port 0. -/
def Request.ofOp (op : OpCode) : Request := ⟨op, 0, 0, 0, 0, 0, 0, 0, 0, 0, 0, 0, OperandFrame.zero⟩

/-- A request with the given operation select and operand frame. -/
def Request.ofFrame (op : OpCode) (f : OperandFrame) : Request := { Request.ofOp op with f := f }

/-- The encoder: what a host presents for an instruction. Ports that the operation does not read are 0,
which R36 says has no effect (log entry 6, DESIGN CHOICE, safe). -/
def encode : Instr → Input
  | .buildId pn src dst prio =>
    .request { Request.ofOp 0x00 with aPn := pn, aSrc := src, aDst := dst, aPrio := prio }
  | .decomposeId id => .request (Request.ofFrame 0x01 { OperandFrame.zero with fId := id })
  | .packHdr mfr ind => .request { Request.ofOp 0x02 with aMfr := mfr, aInd := ind }
  | .unpackHdr n b0 b1 =>
    .request (Request.ofFrame 0x03
      { OperandFrame.zero with fLen := n, fData := { Lanes.zero with d0 := b0, d1 := b1 } })
  | .makeFrame f => .request (Request.ofFrame 0x04 f)
  | .isRecognized f => .request (Request.ofFrame 0x05 f)
  | .kindOf f => .request (Request.ofFrame 0x06 f)
  | .parseAny f => .request (Request.ofFrame 0x07 f)
  | .encSimpleAction src dst a s =>
    .request { Request.ofOp 0x09 with aSrc := src, aDst := dst, aF0 := a, aF1 := s }
  | .encStateInfo src s st ty =>
    .request { Request.ofOp 0x0A with aSrc := src, aF0 := s, aF1 := st, aF2 := ty }
  | .encCustomHsb src dst a s h sa b =>
    .request { Request.ofOp 0x0B with
      aSrc := src, aDst := dst, aF0 := a, aF1 := s, aF2 := h, aF3 := sa, aF4 := b }
  | .encStartPattern src dst s p =>
    .request { Request.ofOp 0x0C with aSrc := src, aDst := dst, aF0 := s, aF1 := p }
  | .decSimpleAction f => .request (Request.ofFrame 0x11 f)
  | .decStateInfo f => .request (Request.ofFrame 0x12 f)
  | .decCustomHsb f => .request (Request.ofFrame 0x13 f)
  | .decStartPattern f => .request (Request.ofFrame 0x14 f)
  | .unassignedOp08 => .request (Request.ofOp 0x08)
  | .unassignedOp0D => .request (Request.ofOp 0x0D)
  | .unassignedOp0E => .request (Request.ofOp 0x0E)
  | .unassignedOp0F => .request (Request.ofOp 0x0F)
  | .unassignedOp10 => .request (Request.ofOp 0x10)
  | .unassignedOp15 => .request (Request.ofOp 0x15)
  | .unassignedOp16 => .request (Request.ofOp 0x16)
  | .unassignedOp17 => .request (Request.ofOp 0x17)
  | .unassignedOp18 => .request (Request.ofOp 0x18)
  | .unassignedOp19 => .request (Request.ofOp 0x19)
  | .unassignedOp1A => .request (Request.ofOp 0x1A)
  | .unassignedOp1B => .request (Request.ofOp 0x1B)
  | .unassignedOp1C => .request (Request.ofOp 0x1C)
  | .unassignedOp1D => .request (Request.ofOp 0x1D)
  | .unassignedOp1E => .request (Request.ofOp 0x1E)
  | .unassignedOp1F => .request (Request.ofOp 0x1F)
  | .payloadSimpleAction hr a s r extra =>
    .payload (Machine.recognizedPayload hr Config.kindSimpleAction ([a, s, r] ++ extra))
  | .payloadStateInfo hr s st ty r extra =>
    .payload (Machine.recognizedPayload hr Config.kindStateInfo ([s, st, ty, r] ++ extra))
  | .payloadCustomHsb hr a s h sa b =>
    .payload (Machine.recognizedPayload hr Config.kindCustomHsb [a, s, h, sa, b])
  | .payloadStartPattern hr s p r extra =>
    .payload (Machine.recognizedPayload hr Config.kindStartPattern ([s, p, r] ++ extra))
  | .payloadReservedKind5 hr rest => .payload (Machine.recognizedPayload hr 5 rest)
  | .payloadReservedKind6 hr rest => .payload (Machine.recognizedPayload hr 6 rest)
  | .payloadReservedKind7 hr rest => .payload (Machine.recognizedPayload hr 7 rest)
  | .payloadReservedKind8 hr rest => .payload (Machine.recognizedPayload hr 8 rest)
  | .payloadReservedKind16 hr rest => .payload (Machine.recognizedPayload hr 16 rest)
  | .payloadUnassignedKind hr kind rest => .payload (Machine.recognizedPayload hr kind rest)
  | .identifier prio reg src => .identifier (Machine.joinIdentifier prio reg src)
  | .headerWord mfr reserved ind => .headerWord (Machine.joinHeaderWord mfr reserved ind)
  | .statusOk => .status 0
  | .statusAbsent => .status 1
  | .statusConstructionError => .status 2
  | .statusMalformedHeader => .status 3
  | .statusIllegalOp => .status 4

/-! ## Words of the opcode table -/

/-- The low eight bytes of a number, least significant first. -/
def tableBytes (w : Nat) : List Byte :=
  (List.range 8).map fun i => BitVec.ofNat 8 (w / 256 ^ i)

/-- What a host presents for a table word of `nbits` bits (log entry 5, DESIGN CHOICE, unsafe): up to 3 bits a status code, up to 8
an operation select with every operand port 0, up to 16 a header word, 25 to 32 an identifier, otherwise up
to 64 the eight bytes of a payload, the first at offset 0. None where the number has bits that the code
space has not. -/
def tableInput (nbits w : Nat) : Option Input :=
  if 2 ^ nbits ≤ w then none
  else if nbits ≤ 3 then some (.status (BitVec.ofNat 3 w))
  else if nbits ≤ 8 then (if w < 2 ^ 5 then some (.request (Request.ofOp (BitVec.ofNat 5 w))) else none)
  else if nbits ≤ 16 then some (.headerWord (BitVec.ofNat 16 w))
  else if 24 < nbits ∧ nbits ≤ 32 then
    (if w < 2 ^ 29 then some (.identifier (BitVec.ofNat 29 w)) else none)
  else if nbits ≤ 64 then some (.payload (tableBytes w))
  else none

/-- The instruction that the decoder reads from a table word; none where it refuses. -/
def decodeTableWord (nbits w : Nat) : Option Instr :=
  match tableInput nbits w with
  | some x => (decode x).toOption
  | none => none

end Sys2Proof
end

