-- ==== Sys2Proof/Machine/State.lean ====
section
/-!
DEFINITION. The typed values of the block (spec/10_state.md rules R27 to R29), the outcome of a transaction
(R15, R141), the machine's state and its reset.

The block itself holds nothing (R20): `Block` is the empty record. The rest of `State` belongs to the host
and to the run (R183): what it has still to present, the responses it has had, and what stands on the
response ports now. No instruction's response depends on it.
-/

namespace Sys2Proof.Machine

/-- A Frame (R27). Its invariant is `Frame.wf`: at most 8 payload bytes. The defaults are those of the
written notation (R85). -/
structure Frame where
  identifier : Identifier := 0
  payload : List Byte
  priority : Priority := Config.defaultPriority
  sourceAddress : Byte := 0
  destinationAddress : Byte := Config.broadcast
  deriving DecidableEq, Repr

/-- The invariant of a Frame: "`payload.length ≤ 8`" (R27). -/
def Frame.wf (f : Frame) : Bool := decide (f.payload.length ≤ Config.maxPayload)

/-- The record read from the first three payload bytes (R28). -/
structure ProprietaryHeader where
  manufacturerCode : ManufacturerCode
  industryCode : IndustryCode
  kindId : Byte
  deriving DecidableEq, Repr

/-- A Message: one of four variants, each with the decoded header and its fields in payload order (R29).
Every field is a raw byte (R30, R31). -/
inductive Message where
  | simpleAction (h : ProprietaryHeader) (actionId switchId : Byte)
  | stateInfo (h : ProprietaryHeader) (switchId switchState switchType : Byte)
  | customHsb (h : ProprietaryHeader) (actionId switchId hue saturation brightness : Byte)
  | startPattern (h : ProprietaryHeader) (switchId patternId : Byte)
  deriving DecidableEq, Repr

/-- The header of a Message of the given kind: the constants and the tag (R29). -/
def expectedHeader (kind : Byte) : ProprietaryHeader := ⟨Config.mfrCode, Config.indCode, kind⟩

/-- The header fields are 1512, 4 and the variant's tag (R29). -/
def Message.wf : Message → Bool
  | .simpleAction h _ _ => decide (h = expectedHeader Config.kindSimpleAction)
  | .stateInfo h _ _ _ => decide (h = expectedHeader Config.kindStateInfo)
  | .customHsb h _ _ _ _ _ => decide (h = expectedHeader Config.kindCustomHsb)
  | .startPattern h _ _ => decide (h = expectedHeader Config.kindStartPattern)

/-- The values that an `OK` carries (R69), one constructor for each shape. -/
inductive Result where
  /-- `r_id` of `BUILD_ID`. -/
  | identifier (id : Identifier)
  /-- `r_prio`, `r_pn`, `r_src` of `DECOMPOSE_ID`. -/
  | parts (priority : Priority) (protocolNumber : ProtocolNumber) (source : Byte)
  /-- The two bytes of `PACK_HDR`, offset 0 first; a sequence of two bytes and no Frame (R100). -/
  | headerBytes (b0 b1 : Byte)
  /-- `r_mfr`, `r_ind` of `UNPACK_HDR`. -/
  | codes (manufacturerCode : ManufacturerCode) (industryCode : IndustryCode)
  /-- The Frame of `MAKE_FRAME` and of the encoders. -/
  | frame (f : Frame)
  /-- `r_bool` of `IS_RECOGNIZED`. -/
  | recognized (b : Bool)
  /-- `r_kind` of `KIND_OF`. -/
  | kind (k : Byte)
  /-- The Message of the decoders and of `PARSE_ANY`. -/
  | message (m : Message)
  /-- No value: the status code `OK` alone (row `STATUS_OK`) does not say which values come with it. No
  operation answers this; every result port then carries a free value (log entry 3, DESIGN CHOICE, safe). -/
  | notStated
  deriving DecidableEq, Repr

/-- The faults of the block (R140, R145). Each ends its transaction and nothing else (R151), so each is a
response and a next state. It stops nothing. -/
inductive BlockFault where
  /-- A Frame of more than 8 payload bytes was to be constructed (R142). -/
  | constructionError
  /-- `UNPACK_HDR` was given fewer than 2 bytes (R143). -/
  | malformedHeader
  /-- The operation select is unassigned (R145). -/
  | illegalOp
  deriving DecidableEq, Repr

/-- A response: the outcome of one transaction (R15). -/
inductive Response where
  /-- `OK(values)`. -/
  | ok (v : Result)
  /-- `ABSENT`, the non-error empty result (R144). -/
  | absent
  /-- A fault, with no result (R151). -/
  | fault (f : BlockFault)
  deriving DecidableEq, Repr

/-- The persistent state of the block: the empty record (R20, R21 to R24). -/
structure Block where
  deriving DecidableEq, Repr

/-- The machine: the block, and the host and run around it. -/
structure State where
  /-- The block's own state: none (R20). -/
  block : Block
  /-- What the host has still to present, first to come first: the run's list of transactions (R183). -/
  pending : List Input
  /-- The responses of the run so far, first to come first: the run's result (R183). -/
  responses : List Response
  /-- The response that the response ports carry now; `none` when no request is presented, when they carry
  an unspecified value (R37). It is read by no instruction (R23, R25). -/
  onPorts : Option Response
  /-- The MODEL's own counter: which free value the undriven ports carry now (log entry 4,
  DESIGN CHOICE, safe). -/
  freeIndex : Nat
  deriving DecidableEq, Repr

/-- The machine after reset: the block has no storage to set (R37, R170), nothing is presented, nothing has
been answered (log entry 1, DESIGN CHOICE, unsafe). -/
def State.reset : State where
  block := {}
  pending := []
  responses := []
  onPorts := none
  freeIndex := 0

/-- Why a step stops with a fault. The faults of the block are no such stop: they are responses. -/
inductive Fault where
  /-- Raised by `step` when a host presents status code 5, 6 or 7, which is never produced (R141, U13). Safe:
  the model stops where the spec gives no behaviour. -/
  | statusNeverProduced
  deriving DecidableEq, Repr

/-- Why an instruction is refused. -/
inductive Refusal where
  /-- Raised by `exec` for an instruction with no meaning yet. Safe. No arm answers it. -/
  | notModelled (mnemonic : String)
  deriving DecidableEq, Repr

end Sys2Proof.Machine
end

