-- ==== Sys2Proof/Machine/Flags.lean ====
section
/-!
DEFINITION. The status codes (R141). The block has no flags (R23): what reports the outcome of a transaction
is the `status` port, and this file gives its codes.
-/

namespace Sys2Proof.Machine

/-- The status code of a fault (R141). -/
def faultStatus : BlockFault → StatusCode
  | .constructionError => 2
  | .malformedHeader => 3
  | .illegalOp => 4

/-- The status code of a response (R141). -/
def responseStatus : Response → StatusCode
  | .ok _ => 0
  | .absent => 1
  | .fault f => faultStatus f

end Sys2Proof.Machine
end

