-- ==== Sys2Proof/Machine/Ops.lean ====
section
/-!
DEFINITION. The shared operations: ending a transaction (R15), taking a fault (R151), constructing a Frame
(R110, R111), unpacking a header (R101), and driving the response ports (R34 to R36).
-/

namespace Sys2Proof.Machine

/-- The outcome of one step of this machine. -/
abbrev StepOutcome := Host.Outcome State Fault Refusal

/-! ## Ending a transaction -/

/-- The transaction is answered: the response stands on the ports and joins the responses of the run (R26,
R183). The block and what is pending are untouched (R20). -/
def respond (r : Response) (s : State) : State :=
  { s with responses := s.responses ++ [r], onPorts := some r, freeIndex := s.freeIndex + 1 }

/-- `return v`: the outcome `OK(v)` (R15). -/
def returnOk (v : Result) (s : State) : StepOutcome := .next (respond (.ok v) s)

/-- `absent`: the outcome `ABSENT` (R15, R144). -/
def answerAbsent (s : State) : StepOutcome := .next (respond .absent s)

/-- Taking a fault, `raise` (R15, R151): the response carries the fault's status and no result, and nothing
else happens. No pc, mode, mask or saved register exists that it could change, and there is no return from
it: the host presents its next request at once (R153). -/
def raise (f : BlockFault) (s : State) : StepOutcome := .next (respond (.fault f) s)

/-- An optional result: `OK` with the value, or `ABSENT` (R16). -/
def answerOptional (v : Option Result) (s : State) : StepOutcome :=
  match v with
  | some r => returnOk r s
  | none => answerAbsent s

/-- No request is presented: the block answers nothing and the response ports carry unspecified values
(R37). -/
def idle (s : State) : State := { s with onPorts := none, freeIndex := s.freeIndex + 1 }

/-! ## Frames -/

/-- Constructing a Frame of a payload of any length (R110, U14): more than 8 bytes is a construction error,
never a shorter payload. -/
def constructFrame (f : Frame) : Except BlockFault Frame :=
  if Config.maxPayload < f.payload.length then .error .constructionError else .ok f

/-- Constructing the Frame on the `f_*` ports (R35, R110): the length test is on `f_len`. -/
def makeFrame (f : OperandFrame) : Except BlockFault Frame :=
  if Config.maxPayload < f.fLen.toNat then .error .constructionError
  else .ok { identifier := f.fId, payload := operandPayload f, priority := f.fPrio,
             sourceAddress := f.fSrc, destinationAddress := f.fDst }

/-- An operation that takes a Frame constructs it first, before every other test (R111, R147). -/
def withFrame (f : OperandFrame) (k : Frame → State → StepOutcome) (s : State) : StepOutcome :=
  match makeFrame f with
  | .error e => raise e s
  | .ok fr => k fr s

/-! ## The header -/

/-- `unpackHeader` of a byte buffer (R101): the codes of its first two bytes, `MalformedHeader` when it has
fewer. -/
def unpackHeader (b : List Byte) : Except BlockFault (ManufacturerCode × IndustryCode) :=
  match memReadWord b with
  | some w => .ok (headerManufacturer w, headerIndustry w)
  | none => .error .malformedHeader

/-! ## The response ports -/

/-- A Message on `r_kind`, `r_mfr`, `r_ind` and `r_g0` to `r_g4`; the fields its variant lacks are driven 0
(R35). -/
def driveMessage (p : ResponsePorts) (h : ProprietaryHeader) (g0 g1 g2 g3 g4 : Byte) : ResponsePorts :=
  { p with rKind := h.kindId, rMfr := h.manufacturerCode, rInd := h.industryCode,
           rG0 := g0, rG1 := g1, rG2 := g2, rG3 := g3, rG4 := g4 }

/-- The result ports that an `OK` drives, over the values `p` of the ports it does not (R34 to R36, R69). The
lanes `r_data[2]` to `r_data[7]` of a `PACK_HDR` result, which is no Frame, count as not driven (log entry 11,
DESIGN CHOICE, safe). -/
def driveResult (p : ResponsePorts) : Result → ResponsePorts
  | .identifier id => { p with rId := id }
  | .parts prio pn src => { p with rPrio := prio, rPn := pn, rSrc := src }
  | .headerBytes b0 b1 => { p with rLen := 2, rData := { p.rData with d0 := b0, d1 := b1 } }
  | .codes mfr ind => { p with rMfr := mfr, rInd := ind }
  | .frame f =>
    { p with rId := f.identifier, rLen := BitVec.ofNat 4 f.payload.length, rData := lanesOfPayload f.payload,
             rPrio := f.priority, rSrc := f.sourceAddress, rDst := f.destinationAddress }
  | .recognized b => { p with rBool := BitVec.ofBool b }
  | .kind k => { p with rKind := k }
  | .message (.simpleAction h a s) => driveMessage p h a s 0 0 0
  | .message (.stateInfo h s st ty) => driveMessage p h s st ty 0 0
  | .message (.customHsb h a s hu sa b) => driveMessage p h a s hu sa b
  | .message (.startPattern h s pt) => driveMessage p h s pt 0 0 0
  | .notStated => p

/-- The response ports of a response, over the values `p` of the ports it does not drive: `status` always,
and on `OK` the results (R34, R36). -/
def driveResponse (p : ResponsePorts) (r : Response) : ResponsePorts :=
  match r with
  | .ok v => { driveResult p v with status := responseStatus r }
  | .absent => { p with status := responseStatus r }
  | .fault _ => { p with status := responseStatus r }

/-- What the response ports carry: the response of the transaction just answered, and a free value on every
port that it does not drive; with no request presented, a free value on all (R36, R37). -/
def responsePorts (s : State) : ResponsePorts :=
  match s.onPorts with
  | some r => driveResponse (Config.undrivenPorts s.freeIndex) r
  | none => Config.undrivenPorts s.freeIndex

/-- A Frame that one response gave, presented as the operand frame of a next request (R35, R49): every field
on its port. -/
def presentFrame (f : Frame) : OperandFrame where
  fId := f.identifier
  fLen := BitVec.ofNat 4 f.payload.length
  fData := lanesOfPayload f.payload
  fPrio := f.priority
  fSrc := f.sourceAddress
  fDst := f.destinationAddress

/-- The Frame of a bare payload, with the defaults of the written notation for the fields that no
decode-side operation inspects (R85). -/
def framePayload (p : List Byte) : Except BlockFault Frame := constructFrame { payload := p }

end Sys2Proof.Machine
end

