-- ==== Sys2Proof/Machine/HeaderCodec.lean ====
section
/-!
DEFINITION. The header codec: `PACK_HDR` and `UNPACK_HDR` (spec/41_header_codec.md).
-/

namespace Sys2Proof.Machine

/-- `packHeader`: the two bytes of the header word, little-endian (R100). -/
def packHeader (aMfr aInd : Arg) : List Byte := wordBytes (packHeaderWord aMfr aInd)

/-- The answer of `UNPACK_HDR` to a byte buffer (R101). -/
def answerUnpack (b : List Byte) (s : State) : StepOutcome :=
  match unpackHeader b with
  | .ok (mfr, ind) => returnOk (.codes mfr ind) s
  | .error e => raise e s

/-- `PACK_HDR` (R100): always `OK`, with the bytes in lanes 0 and 1; the other lanes are not driven
(log entry 11, DESIGN CHOICE, safe). -/
def execPackHdr (aMfr aInd : Arg) (s : State) : StepOutcome :=
  let w := packHeaderWord aMfr aInd
  returnOk (.headerBytes (w.extractLsb' 0 8) (w.extractLsb' 8 8)) s

/-- `UNPACK_HDR` (R101): the buffer is `f_len` bytes long, of which only the first two are read; it is not a
Frame, so 9 to 15 are lengths like any other. -/
def execUnpackHdr (fLen : Len) (b0 b1 : Byte) (s : State) : StepOutcome :=
  answerUnpack ([b0, b1].take fLen.toNat) s

end Sys2Proof.Machine
end

