-- ==== Sys2Proof/Machine/Encoders.lean ====
section
/-!
DEFINITION. The message encoders (spec/43_message_encoders.md): R120 once, and the four encoders over it.
-/

namespace Sys2Proof.Machine

/-- `MFR_CODE` as an operand of `PACK_HDR`. -/
def mfrOperand : Arg := Config.mfrCode.setWidth 32

/-- `IND_CODE` as an operand of `PACK_HDR`. -/
def indOperand : Arg := Config.indCode.setWidth 32

/-- The payload that an encoder assembles (R120): the header bytes, the kind tag, the masked fields, and a
zero reserved byte where the format has one. -/
def encodePayload (kind : Byte) (fields : List Arg) (reserved : Bool) : List Byte :=
  let q0 := memWrite (packHeader mfrOperand indOperand) 2 [kind]
  let q1 := memWrite q0 3 (fields.map (mask 8))
  if reserved then memWrite q1 (3 + fields.length) [0] else q1

/-- The Frame that an encoder returns (R120): the identifier of protocol number 61184 and priority 6, the
payload, and the informational fields that agree with the identifier. -/
def encodeFrame (kind : Byte) (aSrc aDst : Arg) (fields : List Arg) (reserved : Bool) : Frame where
  identifier :=
    buildIdentifier (Config.protocolNumber.setWidth 32) aSrc aDst (Config.defaultPriority.setWidth 32)
  payload := encodePayload kind fields reserved
  priority := Config.defaultPriority
  sourceAddress := mask 8 aSrc
  destinationAddress := mask 8 aDst

/-- `ENC_SIMPLE_ACTION` (R121): always `OK`. -/
def execEncSimpleAction (aSrc aDst actionId switchId : Arg) (s : State) : StepOutcome :=
  returnOk (.frame (encodeFrame Config.kindSimpleAction aSrc aDst [actionId, switchId] true)) s

/-- `ENC_STATE_INFO` (R122): always `OK`; the destination is broadcast whatever the host gives. -/
def execEncStateInfo (aSrc switchId switchState switchType : Arg) (s : State) : StepOutcome :=
  returnOk (.frame (encodeFrame Config.kindStateInfo aSrc (Config.broadcast.setWidth 32)
    [switchId, switchState, switchType] true)) s

/-- `ENC_CUSTOM_HSB` (R123): always `OK`; no reserved byte. -/
def execEncCustomHsb (aSrc aDst actionId switchId hue saturation brightness : Arg) (s : State) :
    StepOutcome :=
  returnOk (.frame (encodeFrame Config.kindCustomHsb aSrc aDst
    [actionId, switchId, hue, saturation, brightness] false)) s

/-- `ENC_START_PATTERN` (R124): always `OK`. -/
def execEncStartPattern (aSrc aDst switchId patternId : Arg) (s : State) : StepOutcome :=
  returnOk (.frame (encodeFrame Config.kindStartPattern aSrc aDst [switchId, patternId] true)) s

end Sys2Proof.Machine
end

