-- ==== Sys2Proof/Machine/FrameValidator.lean ====
section
/-!
DEFINITION. Frame construction and the validator: `MAKE_FRAME`, `IS_RECOGNIZED`, `KIND_OF`
(spec/42_frame_and_validator.md).
-/

namespace Sys2Proof.Machine

/-- `isRecognized` (R112): at least 3 bytes, and the unpacked header is the two constants. The length test
comes first, so that unpacking never fails; a failure would be "false" (R154). -/
def isRecognized (f : Frame) : Bool :=
  if f.payload.length < Config.minRecognized then false
  else
    match unpackHeader (f.payload.take 2) with
    | .ok (mfr, ind) => decide (mfr = Config.mfrCode ∧ ind = Config.indCode)
    | .error _ => false

/-- `kindOf` (R113): payload byte 2 of a recognized frame, else absent. -/
def kindOf (f : Frame) : Option Byte := if isRecognized f then memReadByte f.payload 2 else none

/-- `MAKE_FRAME` (R110): the Frame on the ports, `ConstructionError` when `f_len` is 9 to 15. -/
def execMakeFrame (f : OperandFrame) (s : State) : StepOutcome :=
  withFrame f (fun fr => returnOk (.frame fr)) s

/-- `IS_RECOGNIZED` (R112): `OK` with a Boolean; never absent (R16). -/
def execIsRecognized (f : OperandFrame) (s : State) : StepOutcome :=
  withFrame f (fun fr => returnOk (.recognized (isRecognized fr))) s

/-- `KIND_OF` (R113): `OK` with the kind tag, or `ABSENT`. -/
def execKindOf (f : OperandFrame) (s : State) : StepOutcome :=
  withFrame f (fun fr => answerOptional ((kindOf fr).map .kind)) s

end Sys2Proof.Machine
end

