-- ==== Sys2Proof/Machine/Decoders.lean ====
section
/-!
DEFINITION. The message decoders and the dispatcher (spec/44_message_decoders_dispatch.md): R130 once, the
four decoders over it, and `PARSE_ANY`.
-/

namespace Sys2Proof.Machine

/-- What every decoder does (R130): absent unless the frame's kind is `kind` and its payload has at least
`len` bytes; then the header fields of the payload and the variant's fields from offset 3 on. -/
def decodeVariant (kind : Byte) (len : Nat) (fields : ProprietaryHeader → List Byte → Option Message)
    (f : Frame) : Option Message :=
  if kindOf f ≠ some kind then none
  else if f.payload.length < len then none
  else
    match unpackHeader f.payload with
    | .ok (mfr, ind) => fields ⟨mfr, ind, kind⟩ (f.payload.drop 3)
    | .error _ => none

/-- The fields of SimpleAction from offset 3 on (R64, R131). -/
def fieldsSimpleAction (h : ProprietaryHeader) : List Byte → Option Message
  | a :: s :: _ => some (.simpleAction h a s)
  | _ => none

/-- The fields of StateInfo from offset 3 on (R65, R132). -/
def fieldsStateInfo (h : ProprietaryHeader) : List Byte → Option Message
  | s :: st :: ty :: _ => some (.stateInfo h s st ty)
  | _ => none

/-- The fields of CustomHSB from offset 3 on (R66, R133). -/
def fieldsCustomHsb (h : ProprietaryHeader) : List Byte → Option Message
  | a :: s :: hu :: sa :: b :: _ => some (.customHsb h a s hu sa b)
  | _ => none

/-- The fields of StartPattern from offset 3 on (R67, R134). -/
def fieldsStartPattern (h : ProprietaryHeader) : List Byte → Option Message
  | s :: p :: _ => some (.startPattern h s p)
  | _ => none

/-- The SimpleAction decoder (R131). -/
def decodeSimpleAction : Frame → Option Message :=
  decodeVariant Config.kindSimpleAction Config.lenSimpleAction fieldsSimpleAction

/-- The StateInfo decoder (R132). -/
def decodeStateInfo : Frame → Option Message :=
  decodeVariant Config.kindStateInfo Config.lenStateInfo fieldsStateInfo

/-- The CustomHSB decoder (R133). -/
def decodeCustomHsb : Frame → Option Message :=
  decodeVariant Config.kindCustomHsb Config.lenCustomHsb fieldsCustomHsb

/-- The StartPattern decoder (R134). -/
def decodeStartPattern : Frame → Option Message :=
  decodeVariant Config.kindStartPattern Config.lenStartPattern fieldsStartPattern

/-- `parseAny` (R135): the decoder that the kind tag selects; any kind without a decoder is absent. -/
def parseAny (f : Frame) : Option Message :=
  match kindOf f with
  | none => none
  | some k =>
    if k = Config.kindSimpleAction then decodeSimpleAction f
    else if k = Config.kindStateInfo then decodeStateInfo f
    else if k = Config.kindCustomHsb then decodeCustomHsb f
    else if k = Config.kindStartPattern then decodeStartPattern f
    else none

/-- The answer of a decoder, or of the dispatcher, to a Frame: `OK` with the Message or `ABSENT` (R130). -/
def answerMessage (d : Frame → Option Message) (f : Frame) (s : State) : StepOutcome :=
  answerOptional ((d f).map .message) s

/-- `DEC_SIMPLE_ACTION` (R131). -/
def execDecSimpleAction (f : OperandFrame) (s : State) : StepOutcome :=
  withFrame f (answerMessage decodeSimpleAction) s

/-- `DEC_STATE_INFO` (R132). -/
def execDecStateInfo (f : OperandFrame) (s : State) : StepOutcome :=
  withFrame f (answerMessage decodeStateInfo) s

/-- `DEC_CUSTOM_HSB` (R133). -/
def execDecCustomHsb (f : OperandFrame) (s : State) : StepOutcome :=
  withFrame f (answerMessage decodeCustomHsb) s

/-- `DEC_START_PATTERN` (R134). -/
def execDecStartPattern (f : OperandFrame) (s : State) : StepOutcome :=
  withFrame f (answerMessage decodeStartPattern) s

/-- `PARSE_ANY` (R135). -/
def execParseAny (f : OperandFrame) (s : State) : StepOutcome :=
  withFrame f (answerMessage parseAny) s

end Sys2Proof.Machine
end

