-- ==== Sys2Proof/Machine/IdentifierCodec.lean ====
section
/-!
DEFINITION. The identifier codec: `BUILD_ID` and `DECOMPOSE_ID` (spec/40_identifier_codec.md).
-/

namespace Sys2Proof.Machine

/-- The fields of an identifier: priority, raw protocol-number region, source (R91). -/
def decomposeIdentifier (id : Identifier) : Result := .parts (idPriority id) (idRegion id) (idSource id)

/-- `BUILD_ID` (R90): always `OK`. -/
def execBuildId (aPn aSrc aDst aPrio : Arg) (s : State) : StepOutcome :=
  returnOk (.identifier (buildIdentifier aPn aSrc aDst aPrio)) s

/-- `DECOMPOSE_ID` (R91): always `OK`. -/
def execDecomposeId (fId : Identifier) (s : State) : StepOutcome := returnOk (decomposeIdentifier fId) s

end Sys2Proof.Machine
end

