-- ==== Sys2Proof/Machine/Formats.lean ====
section
/-!
DEFINITION. The rows of the opcode table that are formats and not operations (log entry 3, DESIGN CHOICE,
unsafe). A payload given to the demultiplexer is routed by its kind tag (R75, R135); an identifier given to
the identifier codec is decomposed (R91); a header word given to the header codec is unpacked (R101); a
status code ends a transaction with that outcome (R15, R141).
-/

namespace Sys2Proof.Machine

/-- The demultiplexer's answer to a bare payload: the Frame is constructed and `parseAny` selects the
decoder (R111, R135). -/
def routePayload (p : List Byte) (s : State) : StepOutcome :=
  match framePayload p with
  | .ok f => answerMessage parseAny f s
  | .error e => raise e s

/-- `PAYLOAD_SIMPLE_ACTION` (R64, R75). -/
def execPayloadSimpleAction (hr : BitVec 2) (a sw r : Byte) (extra : List Byte) (s : State) : StepOutcome :=
  routePayload (recognizedPayload hr Config.kindSimpleAction ([a, sw, r] ++ extra)) s

/-- `PAYLOAD_STATE_INFO` (R65, R75). -/
def execPayloadStateInfo (hr : BitVec 2) (sw st ty r : Byte) (extra : List Byte) (s : State) : StepOutcome :=
  routePayload (recognizedPayload hr Config.kindStateInfo ([sw, st, ty, r] ++ extra)) s

/-- `PAYLOAD_CUSTOM_HSB` (R66, R75). -/
def execPayloadCustomHsb (hr : BitVec 2) (a sw h sa b : Byte) (s : State) : StepOutcome :=
  routePayload (recognizedPayload hr Config.kindCustomHsb [a, sw, h, sa, b]) s

/-- `PAYLOAD_START_PATTERN` (R67, R75). -/
def execPayloadStartPattern (hr : BitVec 2) (sw p r : Byte) (extra : List Byte) (s : State) : StepOutcome :=
  routePayload (recognizedPayload hr Config.kindStartPattern ([sw, p, r] ++ extra)) s

/-- `PAYLOAD_RESERVED_KIND_5` (R79): no decoder, so the demultiplexer answers absent. -/
def execPayloadReservedKind5 (hr : BitVec 2) (rest : List Byte) (s : State) : StepOutcome :=
  routePayload (recognizedPayload hr 5 rest) s

/-- `PAYLOAD_RESERVED_KIND_6` (R79): no decoder, so the demultiplexer answers absent. -/
def execPayloadReservedKind6 (hr : BitVec 2) (rest : List Byte) (s : State) : StepOutcome :=
  routePayload (recognizedPayload hr 6 rest) s

/-- `PAYLOAD_RESERVED_KIND_7` (R79): no decoder, so the demultiplexer answers absent. -/
def execPayloadReservedKind7 (hr : BitVec 2) (rest : List Byte) (s : State) : StepOutcome :=
  routePayload (recognizedPayload hr 7 rest) s

/-- `PAYLOAD_RESERVED_KIND_8` (R79): no decoder, so the demultiplexer answers absent. -/
def execPayloadReservedKind8 (hr : BitVec 2) (rest : List Byte) (s : State) : StepOutcome :=
  routePayload (recognizedPayload hr 8 rest) s

/-- `PAYLOAD_RESERVED_KIND_16` (R79): no decoder, so the demultiplexer answers absent. -/
def execPayloadReservedKind16 (hr : BitVec 2) (rest : List Byte) (s : State) : StepOutcome :=
  routePayload (recognizedPayload hr 16 rest) s

/-- `PAYLOAD_UNASSIGNED_KIND` (R80): absence, never a fault. -/
def execPayloadUnassignedKind (hr : BitVec 2) (kind : Byte) (rest : List Byte) (s : State) : StepOutcome :=
  routePayload (recognizedPayload hr kind rest) s

/-- `IDENTIFIER` (R60): the number with this layout, decomposed (R91). -/
def execIdentifier (priority : Priority) (reg : ProtocolNumber) (source : Byte) (s : State) : StepOutcome :=
  returnOk (decomposeIdentifier (joinIdentifier priority reg source)) s

/-- `HEADER_WORD` (R62): the two bytes of the word, unpacked (R101); bits 12:11 are ignored (R78). -/
def execHeaderWord (mfr : ManufacturerCode) (reserved : BitVec 2) (ind : IndustryCode) (s : State) :
    StepOutcome :=
  answerUnpack (wordBytes (joinHeaderWord mfr reserved ind)) s

/-- `STATUS_OK` (R141): the transaction ends with status 0; which values come with it the code does not say,
so every result port carries a free value. -/
def execStatusOk (s : State) : StepOutcome := returnOk .notStated s

/-- `STATUS_ABSENT` (R141, R144). -/
def execStatusAbsent (s : State) : StepOutcome := answerAbsent s

/-- `STATUS_CONSTRUCTION_ERROR` (R141, R142). -/
def execStatusConstructionError (s : State) : StepOutcome := raise .constructionError s

/-- `STATUS_MALFORMED_HEADER` (R141, R143). -/
def execStatusMalformedHeader (s : State) : StepOutcome := raise .malformedHeader s

/-- `STATUS_ILLEGAL_OP` (R141, R145). -/
def execStatusIllegalOp (s : State) : StepOutcome := raise .illegalOp s

/-- What is presented and is no row of the table (log entry 7, DESIGN CHOICE, unsafe): a payload that makes no Frame is a
construction error (R111), one that is not recognized or too short for its kind is absent (R135, R144), and
a status code that is never produced stops the step (R141). -/
def answerUndecoded (e : DecodeError) (s : State) : StepOutcome :=
  match e with
  | .payloadTooLong => raise .constructionError s
  | .payloadTooShort => answerAbsent s
  | .notRecognized => answerAbsent s
  | .tooShortForKind => answerAbsent s
  | .statusNeverProduced => .fault .statusNeverProduced

end Sys2Proof.Machine
end

