-- ==== Sys2Proof/Machine/Unassigned.lean ====
section
/-!
DEFINITION. The sixteen unassigned operation codes (R82): every request with one of them raises `IllegalOp`,
before any operand is looked at (R145).
-/

namespace Sys2Proof.Machine

/-- `op = 0x08` raises `IllegalOp` (R82). -/
def execUnassignedOp08 (s : State) : StepOutcome := raise .illegalOp s

/-- `op = 0x0D` raises `IllegalOp` (R82). -/
def execUnassignedOp0D (s : State) : StepOutcome := raise .illegalOp s

/-- `op = 0x0E` raises `IllegalOp` (R82). -/
def execUnassignedOp0E (s : State) : StepOutcome := raise .illegalOp s

/-- `op = 0x0F` raises `IllegalOp` (R82). -/
def execUnassignedOp0F (s : State) : StepOutcome := raise .illegalOp s

/-- `op = 0x10` raises `IllegalOp` (R82). -/
def execUnassignedOp10 (s : State) : StepOutcome := raise .illegalOp s

/-- `op = 0x15` raises `IllegalOp` (R82). -/
def execUnassignedOp15 (s : State) : StepOutcome := raise .illegalOp s

/-- `op = 0x16` raises `IllegalOp` (R82). -/
def execUnassignedOp16 (s : State) : StepOutcome := raise .illegalOp s

/-- `op = 0x17` raises `IllegalOp` (R82). -/
def execUnassignedOp17 (s : State) : StepOutcome := raise .illegalOp s

/-- `op = 0x18` raises `IllegalOp` (R82). -/
def execUnassignedOp18 (s : State) : StepOutcome := raise .illegalOp s

/-- `op = 0x19` raises `IllegalOp` (R82). -/
def execUnassignedOp19 (s : State) : StepOutcome := raise .illegalOp s

/-- `op = 0x1A` raises `IllegalOp` (R82). -/
def execUnassignedOp1A (s : State) : StepOutcome := raise .illegalOp s

/-- `op = 0x1B` raises `IllegalOp` (R82). -/
def execUnassignedOp1B (s : State) : StepOutcome := raise .illegalOp s

/-- `op = 0x1C` raises `IllegalOp` (R82). -/
def execUnassignedOp1C (s : State) : StepOutcome := raise .illegalOp s

/-- `op = 0x1D` raises `IllegalOp` (R82). -/
def execUnassignedOp1D (s : State) : StepOutcome := raise .illegalOp s

/-- `op = 0x1E` raises `IllegalOp` (R82). -/
def execUnassignedOp1E (s : State) : StepOutcome := raise .illegalOp s

/-- `op = 0x1F` raises `IllegalOp` (R82). -/
def execUnassignedOp1F (s : State) : StepOutcome := raise .illegalOp s

end Sys2Proof.Machine
end

