-- ==== Sys2Proof/Machine/Dispatch.lean ====
section
/-!
DEFINITION. The dispatch: one arm for each constructor of `Instr`, each one call of its meaning.
-/

namespace Sys2Proof.Machine

/-- Executes one instruction. -/
def exec (i : Instr) (s : State) : Host.Outcome State Fault Refusal :=
  match i with
  | .buildId x1 x2 x3 x4 => Sys2Proof.Machine.execBuildId x1 x2 x3 x4 s
  | .decomposeId x1 => Sys2Proof.Machine.execDecomposeId x1 s
  | .packHdr x1 x2 => Sys2Proof.Machine.execPackHdr x1 x2 s
  | .unpackHdr x1 x2 x3 => Sys2Proof.Machine.execUnpackHdr x1 x2 x3 s
  | .makeFrame x1 => Sys2Proof.Machine.execMakeFrame x1 s
  | .isRecognized x1 => Sys2Proof.Machine.execIsRecognized x1 s
  | .kindOf x1 => Sys2Proof.Machine.execKindOf x1 s
  | .parseAny x1 => Sys2Proof.Machine.execParseAny x1 s
  | .encSimpleAction x1 x2 x3 x4 => Sys2Proof.Machine.execEncSimpleAction x1 x2 x3 x4 s
  | .encStateInfo x1 x2 x3 x4 => Sys2Proof.Machine.execEncStateInfo x1 x2 x3 x4 s
  | .encCustomHsb x1 x2 x3 x4 x5 x6 x7 => Sys2Proof.Machine.execEncCustomHsb x1 x2 x3 x4 x5 x6 x7 s
  | .encStartPattern x1 x2 x3 x4 => Sys2Proof.Machine.execEncStartPattern x1 x2 x3 x4 s
  | .decSimpleAction x1 => Sys2Proof.Machine.execDecSimpleAction x1 s
  | .decStateInfo x1 => Sys2Proof.Machine.execDecStateInfo x1 s
  | .decCustomHsb x1 => Sys2Proof.Machine.execDecCustomHsb x1 s
  | .decStartPattern x1 => Sys2Proof.Machine.execDecStartPattern x1 s
  | .unassignedOp08 => Sys2Proof.Machine.execUnassignedOp08 s
  | .unassignedOp0D => Sys2Proof.Machine.execUnassignedOp0D s
  | .unassignedOp0E => Sys2Proof.Machine.execUnassignedOp0E s
  | .unassignedOp0F => Sys2Proof.Machine.execUnassignedOp0F s
  | .unassignedOp10 => Sys2Proof.Machine.execUnassignedOp10 s
  | .unassignedOp15 => Sys2Proof.Machine.execUnassignedOp15 s
  | .unassignedOp16 => Sys2Proof.Machine.execUnassignedOp16 s
  | .unassignedOp17 => Sys2Proof.Machine.execUnassignedOp17 s
  | .unassignedOp18 => Sys2Proof.Machine.execUnassignedOp18 s
  | .unassignedOp19 => Sys2Proof.Machine.execUnassignedOp19 s
  | .unassignedOp1A => Sys2Proof.Machine.execUnassignedOp1A s
  | .unassignedOp1B => Sys2Proof.Machine.execUnassignedOp1B s
  | .unassignedOp1C => Sys2Proof.Machine.execUnassignedOp1C s
  | .unassignedOp1D => Sys2Proof.Machine.execUnassignedOp1D s
  | .unassignedOp1E => Sys2Proof.Machine.execUnassignedOp1E s
  | .unassignedOp1F => Sys2Proof.Machine.execUnassignedOp1F s
  | .payloadSimpleAction x1 x2 x3 x4 x5 => Sys2Proof.Machine.execPayloadSimpleAction x1 x2 x3 x4 x5 s
  | .payloadStateInfo x1 x2 x3 x4 x5 x6 => Sys2Proof.Machine.execPayloadStateInfo x1 x2 x3 x4 x5 x6 s
  | .payloadCustomHsb x1 x2 x3 x4 x5 x6 => Sys2Proof.Machine.execPayloadCustomHsb x1 x2 x3 x4 x5 x6 s
  | .payloadStartPattern x1 x2 x3 x4 x5 => Sys2Proof.Machine.execPayloadStartPattern x1 x2 x3 x4 x5 s
  | .payloadReservedKind5 x1 x2 => Sys2Proof.Machine.execPayloadReservedKind5 x1 x2 s
  | .payloadReservedKind6 x1 x2 => Sys2Proof.Machine.execPayloadReservedKind6 x1 x2 s
  | .payloadReservedKind7 x1 x2 => Sys2Proof.Machine.execPayloadReservedKind7 x1 x2 s
  | .payloadReservedKind8 x1 x2 => Sys2Proof.Machine.execPayloadReservedKind8 x1 x2 s
  | .payloadReservedKind16 x1 x2 => Sys2Proof.Machine.execPayloadReservedKind16 x1 x2 s
  | .payloadUnassignedKind x1 x2 x3 => Sys2Proof.Machine.execPayloadUnassignedKind x1 x2 x3 s
  | .identifier x1 x2 x3 => Sys2Proof.Machine.execIdentifier x1 x2 x3 s
  | .headerWord x1 x2 x3 => Sys2Proof.Machine.execHeaderWord x1 x2 x3 s
  | .statusOk => Sys2Proof.Machine.execStatusOk s
  | .statusAbsent => Sys2Proof.Machine.execStatusAbsent s
  | .statusConstructionError => Sys2Proof.Machine.execStatusConstructionError s
  | .statusMalformedHeader => Sys2Proof.Machine.execStatusMalformedHeader s
  | .statusIllegalOp => Sys2Proof.Machine.execStatusIllegalOp s

end Sys2Proof.Machine
end

