-- ==== Sys2Proof/Machine/Step.lean ====
section
/-!
DEFINITION. One step is one transaction (R26): the host presents the next of its inputs, the decoder reads
it, `exec` answers it. The block fetches nothing itself (R22).
-/

namespace Sys2Proof.Machine

/-- One step. With nothing to present, no request stands on the ports and the block is idle (R37, log entry
2, DESIGN CHOICE, unsafe). What is no row of the table is answered by `answerUndecoded`. -/
def step (s : State) : Host.Outcome State Fault Refusal :=
  match s.pending with
  | [] => .next (idle s)
  | x :: rest =>
    match decode x with
    | .ok i => exec i { s with pending := rest }
    | .error e => answerUndecoded e { s with pending := rest }

/-- The state in which the very next step presents the table word `w` of `nbits` bits: it is put before what
is pending (log entries 2 and 5). -/
def State.withFetchWord (s : State) (nbits w : Nat) : State :=
  match tableInput nbits w with
  | some x => { s with pending := x :: s.pending }
  | none => s

end Sys2Proof.Machine
end

