-- ==== Sys2Proof/Safety.lean ====
section
/-!
DEFINITION. What a safe run is, in the terms that statements use: every response that the run holds is one
that the spec lets the block give.
-/

namespace Sys2Proof.Machine

/-- A result that the block may give: a Frame keeps its invariant (R27), a Message carries the constants and
its variant's tag (R29). -/
def Result.legal : Result → Bool
  | .frame f => f.wf
  | .message m => m.wf
  | _ => true

/-- A response that the block may give. -/
def Response.legal : Response → Bool
  | .ok v => v.legal
  | .absent => true
  | .fault _ => true

/-- The machine is as a run leaves it: every response is legal, and the ports carry the newest response or
none. -/
def State.Safe (s : State) : Prop :=
  (∀ r ∈ s.responses, r.legal = true) ∧ (∀ r, s.onPorts = some r → s.responses.getLast? = some r)

/-- What a host can present without the step stopping: everything but a status code that is never
produced. -/
def Answerable (x : Input) : Prop := decode x ≠ .error .statusNeverProduced

/-- The instruction, executed in the state, ends in a next state: the transaction is answered with the
response and nothing else changes. -/
def Answers (i : Instr) (s : State) (r : Response) : Prop := exec i s = .next (respond r s)

/-- The first three payload bytes as a 24-bit little-endian number, the `P` of R76. Statements use it only
of payloads of at least 3 bytes. -/
def firstThree (p : List Byte) : BitVec 24 := p.getD 2 0 ++ p.getD 1 0 ++ p.getD 0 0

/-- The recognition pattern of R76. -/
abbrev MatchesRecognized (p : List Byte) : Prop := 3 ≤ p.length ∧ firstThree p &&& 0x00E7FF#24 = 0x0085E8#24

/-- The match pattern of a kind (R76). -/
abbrev MatchesKind (k : Byte) (p : List Byte) : Prop :=
  3 ≤ p.length ∧ firstThree p &&& 0xFFE7FF#24 = 0x0085E8#24 ||| (k.setWidth 24 <<< 16)

end Sys2Proof.Machine
end

