-- ==== Sys2Proof/Certificates/Slice0/Obligations.lean ====
section
/-!
DEFINITION. The statements for the provers. `Answers i s r` says that `exec i s` is the next state in which
the transaction is answered with `r` and nothing else has changed, so each statement of a result is also its
completion statement and its frame.
-/

open Sys2Proof Sys2Proof.Machine

/-! ## The machine -/

/-- R26: one step answers one transaction. What is presented next and decodes is run by `exec`, in the state
in which it is no longer pending. -/
def Obligations.StepRunsDecodedInstruction : Prop :=
  ∀ (s : State) (x : Input) (rest : List Input) (i : Instr),
    s.pending = x :: rest → decode x = .ok i → step s = exec i { s with pending := rest }

/-- The encoder's word of a well-formed instruction is run as that instruction. -/
def Obligations.StepRunsEncodedInstruction : Prop :=
  ∀ (s : State) (rest : List Input) (i : Instr),
    i.WellFormed = true → s.pending = encode i :: rest → step s = exec i { s with pending := rest }

/-- R37 and log entry 2 (the model's choice of what such a step is): with no request presented the step
answers nothing and changes nothing of the block, of what is pending and of the responses. -/
def Obligations.NoRequestNoAnswer : Prop :=
  ∀ s : State, s.pending = [] → ∃ t, step s = .next t ∧ t.block = s.block ∧ t.pending = [] ∧
    t.responses = s.responses ∧ t.onPorts = none ∧
    responsePorts t = Config.undrivenPorts t.freeIndex

/-- R170 and R20: the block has no storage that a reset could set, so that reset leaves the block as any
state has it; nothing is pending and nothing answered (log entry 1, the model's choice). -/
def Obligations.ResetLeavesNothing : Prop :=
  State.reset.pending = [] ∧ State.reset.responses = [] ∧ State.reset.onPorts = none ∧
    ∀ s : State, s.block = State.reset.block

/-- Decoding the encoding of a well-formed instruction gives it back. -/
def Obligations.DecodeOfEncode : Prop :=
  ∀ i : Instr, i.WellFormed = true → decode (encode i) = .ok i

/-- What decodes is well formed; a format is encoded back to itself, so that no bit of it is dropped; a
request keeps its operation select. -/
def Obligations.EncodeOfDecode : Prop :=
  (∀ (x : Input) (i : Instr), decode x = .ok i → i.WellFormed = true) ∧
  (∀ (x : Input) (i : Instr), decode x = .ok i → (∀ r, x ≠ .request r) → encode i = x) ∧
  (∀ r : Request, ∃ r' : Request, encode (decodeRequest r) = .request r' ∧ r'.op = r.op ∧
    decodeRequest r' = decodeRequest r)

/-- Words written from the code tables of R74, R62, R60, R76 and R141 decode to their rows. -/
def Obligations.WrittenWordsDecode : Prop :=
  decodeTableWord 8 0b00000 = some (.buildId 0 0 0 0) ∧
  decodeTableWord 8 0b01011 = some (.encCustomHsb 0 0 0 0 0 0 0) ∧
  decodeTableWord 8 0b11111 = some .unassignedOp1F ∧
  decodeTableWord 16 0x85E8 = some (.headerWord 1512 0 4) ∧
  decodeTableWord 24 0x0385E8 = some (.payloadCustomHsb 0 0 0 0 0 0) ∧
  decodeTableWord 32 0x18EF0E10 = some (.identifier 6 0xEF0E 0x10) ∧
  decodeTableWord 3 0b011 = some .statusMalformedHeader

/-- R68 with R36: two requests with the same operation select that agree on the ports that R68 lists for it
are answered alike. -/
def Obligations.UnreadPortsHaveNoEffect : Prop :=
  ∀ (r r' : Request) (s : State), r.op = r'.op →
    (r.op = 0x00 → r.aPn = r'.aPn ∧ r.aSrc = r'.aSrc ∧ r.aDst = r'.aDst ∧ r.aPrio = r'.aPrio) →
    (r.op = 0x01 → r.f.fId = r'.f.fId) →
    (r.op = 0x02 → r.aMfr = r'.aMfr ∧ r.aInd = r'.aInd) →
    (r.op = 0x03 → r.f.fLen = r'.f.fLen ∧ r.f.fData.d0 = r'.f.fData.d0 ∧ r.f.fData.d1 = r'.f.fData.d1) →
    (r.op = 0x04 → r.f = r'.f) →
    (r.op ∈ [0x05#5, 0x06#5, 0x07#5, 0x11#5, 0x12#5, 0x13#5, 0x14#5] →
      r.f.fLen = r'.f.fLen ∧ r.f.fData = r'.f.fData) →
    (r.op ∈ [0x09#5, 0x0C#5] →
      r.aSrc = r'.aSrc ∧ r.aDst = r'.aDst ∧ r.aF0 = r'.aF0 ∧ r.aF1 = r'.aF1) →
    (r.op = 0x0A → r.aSrc = r'.aSrc ∧ r.aF0 = r'.aF0 ∧ r.aF1 = r'.aF1 ∧ r.aF2 = r'.aF2) →
    (r.op = 0x0B → r.aSrc = r'.aSrc ∧ r.aDst = r'.aDst ∧ r.aF0 = r'.aF0 ∧ r.aF1 = r'.aF1 ∧
      r.aF2 = r'.aF2 ∧ r.aF3 = r'.aF3 ∧ r.aF4 = r'.aF4) →
    exec (decodeRequest r) s = exec (decodeRequest r') s

/-- R20 and R48: every instruction is answered, with a response that is the same in every state; the block
and what is pending are unchanged, and the earlier responses stand. -/
def Obligations.ResponseDependsOnRequestOnly : Prop :=
  ∀ i : Instr, ∃ r : Response, ∀ s : State, ∃ t, exec i s = .next t ∧ t.block = s.block ∧
    t.pending = s.pending ∧ t.responses = s.responses ++ [r] ∧ t.onPorts = some r

/-- Every step keeps the run safe: each Frame answered has at most 8 payload bytes (R27), each Message
carries 1512, 4 and its variant's tag (R29), and the ports carry the newest response or none. -/
def Obligations.StepKeepsSafe : Prop :=
  ∀ s t : State, s.Safe → step s = .next t → t.Safe

/-- The state after reset is safe. -/
def Obligations.ResetIsSafe : Prop := State.reset.Safe

/-- R183: presented with inputs none of which is a status code that is never produced, the machine answers
each in order, one step each, and then has nothing left to do; each answer is a function of its input alone
(R49). -/
def Obligations.RunAnswersEachInputInOrder : Prop :=
  ∃ answer : Input → Response, ∀ s : State, (∀ x ∈ s.pending, Answerable x) →
    ∃ t : State, Sys2Proof.core.run s.pending.length s = .next t ∧ t.block = s.block ∧ t.pending = [] ∧
      t.responses = s.responses ++ s.pending.map answer

/-! ## The identifier codec -/

/-- R90: `BUILD_ID` is always `OK`, on `r_id`, with the masked fields at their places; the low byte of the
protocol number is replaced by the destination unless the masked destination is 255. -/
def Obligations.BuildIdResult : Prop :=
  (∀ r : Request, r.op = 0x00 → decode (.request r) = .ok (.buildId r.aPn r.aSrc r.aDst r.aPrio)) ∧
  ∀ (aPn aSrc aDst aPrio : Arg) (s : State), ∃ id : Identifier,
    Answers (.buildId aPn aSrc aDst aPrio) s (.ok (.identifier id)) ∧
    (responsePorts (respond (.ok (.identifier id)) s)).rId = id ∧
    id.toNat = (aPrio.toNat % 2 ^ 3) * 2 ^ 26 +
      (if aDst.toNat % 2 ^ 8 = 255 then aPn.toNat % 2 ^ 18
        else (aPn.toNat % 2 ^ 18) / 2 ^ 8 * 2 ^ 8 + aDst.toNat % 2 ^ 8) * 2 ^ 8 +
      aSrc.toNat % 2 ^ 8

/-- R91: `DECOMPOSE_ID` is always `OK`, with bits 28:26, 25:8 and 7:0 on `r_prio`, `r_pn` and `r_src`. -/
def Obligations.DecomposeIdResult : Prop :=
  (∀ r : Request, r.op = 0x01 → decode (.request r) = .ok (.decomposeId r.f.fId)) ∧
  ∀ (id : Identifier) (s : State), ∃ (p : Priority) (n : ProtocolNumber) (src : Byte),
    Answers (.decomposeId id) s (.ok (.parts p n src)) ∧
    (responsePorts (respond (.ok (.parts p n src)) s)).rPrio = p ∧
    (responsePorts (respond (.ok (.parts p n src)) s)).rPn = n ∧
    (responsePorts (respond (.ok (.parts p n src)) s)).rSrc = src ∧
    p.toNat = id.toNat / 2 ^ 26 ∧ n.toNat = id.toNat / 2 ^ 8 % 2 ^ 18 ∧ src.toNat = id.toNat % 2 ^ 8

/-- R92: the masked priority and source come back, and the region does as R90 builds it: its high ten bits
are the protocol number's, its low byte is exactly when the destination is 255 or that byte; decomposing loses
nothing, since building from the parts with destination 255 gives the identifier back.
It is an inference of the spec's own: the spec marks this law as derived by it from R90 and R91. -/
def Obligations.IdentifierRoundTrip : Prop :=
  (∀ (aPn aSrc aDst aPrio : Arg) (s : State),
    Answers (.decomposeId (buildIdentifier aPn aSrc aDst aPrio)) s
      (.ok (.parts (aPrio.setWidth 3)
        (if aDst.setWidth 8 = 255#8 then aPn.setWidth 18
          else (aPn.setWidth 18 &&& 0x3FF00#18) ||| (aDst.setWidth 8).setWidth 18)
        (aSrc.setWidth 8)))) ∧
  (∀ (aPn aSrc aDst aPrio : Arg) (id : Identifier) (p : Priority) (n : ProtocolNumber) (src : Byte)
      (s : State),
    Answers (.buildId aPn aSrc aDst aPrio) s (.ok (.identifier id)) →
    Answers (.decomposeId id) s (.ok (.parts p n src)) →
    p = aPrio.setWidth 3 ∧ src = aSrc.setWidth 8 ∧ n.toNat / 2 ^ 8 = aPn.toNat % 2 ^ 18 / 2 ^ 8 ∧
    (n.toNat % 2 ^ 8 = aPn.toNat % 2 ^ 8 ↔
      aDst.toNat % 2 ^ 8 = 255 ∨ aDst.toNat % 2 ^ 8 = aPn.toNat % 2 ^ 8)) ∧
  (∀ (id : Identifier) (p : Priority) (n : ProtocolNumber) (src : Byte) (s : State),
    Answers (.decomposeId id) s (.ok (.parts p n src)) →
    Answers (.buildId (n.setWidth 32) (src.setWidth 32) 255 (p.setWidth 32)) s (.ok (.identifier id)))

/-- R93: a destination (masked) of 255 and one that equals the low byte of the protocol number build the same
identifier; for protocol number 61184 that destination is 0.
It is an inference of the spec's own: the spec marks this law as derived by it from R90. -/
def Obligations.BroadcastAliasesLowByte : Prop :=
  (∀ (aPn aSrc aDst aDst' aPrio : Arg) (s : State),
    aDst.toNat % 2 ^ 8 = 255 → aDst'.toNat % 2 ^ 8 = aPn.toNat % 2 ^ 8 →
    exec (.buildId aPn aSrc aDst aPrio) s = exec (.buildId aPn aSrc aDst' aPrio) s) ∧
  (∀ (aSrc aPrio : Arg) (s : State),
    exec (.buildId 61184 aSrc 255 aPrio) s = exec (.buildId 61184 aSrc 0 aPrio) s)

/-- R94: with protocol number 61184 and priority 6 the identifier is `0x18EF0000 | (d << 8) | src`, `d` being
0 for destination 255; it lies in 0x18EF0000 to 0x18EFFEFF and its bits 15:8 are never 0xFF. Every encoder's
frame carries the identifier of those operands, `ENC_STATE_INFO` of destination 255.
It is an inference of the spec's own: the spec marks this as derived by it from R90. -/
def Obligations.EncoderIdentifierRange : Prop :=
  (∀ (aSrc aDst : Arg) (id : Identifier) (s : State),
    Answers (.buildId 61184 aSrc aDst 6) s (.ok (.identifier id)) →
    id.toNat = 0x18EF0000 + (if aDst.toNat % 2 ^ 8 = 255 then 0 else aDst.toNat % 2 ^ 8) * 2 ^ 8 +
      aSrc.toNat % 2 ^ 8 ∧
    0x18EF0000 ≤ id.toNat ∧ id.toNat ≤ 0x18EFFEFF ∧ id.extractLsb' 8 8 ≠ 0xFF#8) ∧
  (∀ (aSrc aDst a b c d e : Arg) (fr : Frame) (s : State),
    (∀ i ∈ [Instr.encSimpleAction aSrc aDst a b, .encCustomHsb aSrc aDst a b c d e,
        .encStartPattern aSrc aDst a b],
      Answers i s (.ok (.frame fr)) →
      Answers (.buildId 61184 aSrc aDst 6) s (.ok (.identifier fr.identifier))) ∧
    (Answers (.encStateInfo aSrc a b c) s (.ok (.frame fr)) →
      Answers (.buildId 61184 aSrc 255 6) s (.ok (.identifier fr.identifier))))

/-- The open parameter `DST_TEST_RAW` (D11): the raw test of the destination builds another identifier only
for a destination operand of 256 or more that masks to 255. -/
def Obligations.RawDestinationTestDiffersOnlyAbove255 : Prop :=
  ∀ aPn aSrc aDst aPrio : Arg,
    buildIdentifierWith true aPn aSrc aDst aPrio ≠ buildIdentifierWith false aPn aSrc aDst aPrio →
    256 ≤ aDst.toNat ∧ aDst.toNat % 2 ^ 8 = 255

/-- The row `IDENTIFIER` (R60, R72, R73, log entry 3): the identifier with these fields at their places
decomposes into them. -/
def Obligations.IdentifierRowDecomposes : Prop :=
  ∀ (p : Priority) (n : ProtocolNumber) (src : Byte) (s : State),
    Answers (.identifier p n src) s (.ok (.parts p n src)) ∧
    (joinIdentifier p n src).toNat = p.toNat * 2 ^ 26 + n.toNat * 2 ^ 8 + src.toNat

/-! ## The header codec -/

/-- R100: `PACK_HDR` is always `OK`, with the two bytes of the word, low byte first, in lanes 0 and 1 and
`r_len` 2; the operands are masked and bits 12:11 are 0. -/
def Obligations.PackHdrResult : Prop :=
  (∀ r : Request, r.op = 0x02 → decode (.request r) = .ok (.packHdr r.aMfr r.aInd)) ∧
  ∀ (aMfr aInd : Arg) (s : State), ∃ b0 b1 : Byte,
    Answers (.packHdr aMfr aInd) s (.ok (.headerBytes b0 b1)) ∧
    (responsePorts (respond (.ok (.headerBytes b0 b1)) s)).rLen = 2 ∧
    (responsePorts (respond (.ok (.headerBytes b0 b1)) s)).rData.d0 = b0 ∧
    (responsePorts (respond (.ok (.headerBytes b0 b1)) s)).rData.d1 = b1 ∧
    b0.toNat + b1.toNat * 2 ^ 8 = aMfr.toNat % 2 ^ 11 + (aInd.toNat % 2 ^ 3) * 2 ^ 13

/-- R101: `UNPACK_HDR` raises `MalformedHeader` for a byte count of 0 or 1 and in no other case; otherwise it
is `OK` with bits 10:0 and 15:13 of the little-endian word of the first two bytes. -/
def Obligations.UnpackHdrResult : Prop :=
  (∀ r : Request, r.op = 0x03 → decode (.request r) = .ok (.unpackHdr r.f.fLen r.f.fData.d0 r.f.fData.d1)) ∧
  ∀ (n : Len) (b0 b1 : Byte) (s : State),
    (n.toNat < 2 → Answers (.unpackHdr n b0 b1) s (.fault .malformedHeader)) ∧
    (2 ≤ n.toNat → ∃ (m : ManufacturerCode) (i : IndustryCode),
      Answers (.unpackHdr n b0 b1) s (.ok (.codes m i)) ∧
      (responsePorts (respond (.ok (.codes m i)) s)).rMfr = m ∧
      (responsePorts (respond (.ok (.codes m i)) s)).rInd = i ∧
      m.toNat = (b0.toNat + b1.toNat * 2 ^ 8) % 2 ^ 11 ∧
      i.toNat = (b0.toNat + b1.toNat * 2 ^ 8) / 2 ^ 13)

/-- R102: unpacking what `PACK_HDR` packs gives the masked codes; packing what `UNPACK_HDR` unpacks gives the
bytes with bits 4 and 3 of the second cleared, hence the bytes themselves exactly when those were 0.
It is an inference of the spec's own: the spec marks this law as derived by it from R100 and R101. -/
def Obligations.HeaderRoundTrip : Prop :=
  (∀ (aMfr aInd : Arg) (b0 b1 : Byte) (s : State),
    Answers (.packHdr aMfr aInd) s (.ok (.headerBytes b0 b1)) →
    Answers (.unpackHdr 2 b0 b1) s (.ok (.codes (aMfr.setWidth 11) (aInd.setWidth 3)))) ∧
  (∀ (b0 b1 : Byte) (m : ManufacturerCode) (i : IndustryCode) (s : State),
    Answers (.unpackHdr 2 b0 b1) s (.ok (.codes m i)) →
    Answers (.packHdr (m.setWidth 32) (i.setWidth 32)) s (.ok (.headerBytes b0 (b1 &&& 0xE7#8))) ∧
    (Answers (.packHdr (m.setWidth 32) (i.setWidth 32)) s (.ok (.headerBytes b0 b1)) ↔
      b1 &&& 0x18#8 = 0#8))

/-- The row `HEADER_WORD` (R62, R73, R78, log entry 3): the word with these fields at their places unpacks
into the two codes, whatever its bits 12:11. -/
def Obligations.HeaderWordRowUnpacks : Prop :=
  ∀ (m : ManufacturerCode) (res : BitVec 2) (i : IndustryCode) (s : State),
    Answers (.headerWord m res i) s (.ok (.codes m i)) ∧
    (joinHeaderWord m res i).toNat = m.toNat + res.toNat * 2 ^ 11 + i.toNat * 2 ^ 13

/-! ## Frames and the validator -/

/-- R110: `MAKE_FRAME` answers the Frame of the ports when `f_len` is at most 8, with a payload of exactly
`f_len` bytes, each its lane; it raises `ConstructionError` when `f_len` is 9 to 15. -/
def Obligations.MakeFrameResult : Prop :=
  (∀ r : Request, r.op = 0x04 → decode (.request r) = .ok (.makeFrame r.f)) ∧
  ∀ (f : OperandFrame) (s : State),
    (8 < f.fLen.toNat → Answers (.makeFrame f) s (.fault .constructionError)) ∧
    (f.fLen.toNat ≤ 8 → ∃ p : List Byte,
      Answers (.makeFrame f) s (.ok (.frame ⟨f.fId, p, f.fPrio, f.fSrc, f.fDst⟩)) ∧
      p.length = f.fLen.toNat ∧
      (∀ i < f.fLen.toNat, p[i]? =
        [f.fData.d0, f.fData.d1, f.fData.d2, f.fData.d3, f.fData.d4, f.fData.d5, f.fData.d6, f.fData.d7][i]?) ∧
      let o := responsePorts (respond (.ok (.frame ⟨f.fId, p, f.fPrio, f.fSrc, f.fDst⟩)) s)
      o.rId = f.fId ∧ o.rLen = f.fLen ∧ o.rPrio = f.fPrio ∧ o.rSrc = f.fSrc ∧ o.rDst = f.fDst ∧
      [o.rData.d0, o.rData.d1, o.rData.d2, o.rData.d3, o.rData.d4, o.rData.d5, o.rData.d6, o.rData.d7] =
        p ++ List.replicate (8 - f.fLen.toNat) 0#8)

/-- R111 and R147: each of the seven operations that take a Frame raises `ConstructionError` when `f_len` is
above 8, whatever the lanes hold. -/
def Obligations.FrameConstructedFirst : Prop :=
  ∀ (f : OperandFrame) (s : State), 8 < f.fLen.toNat →
    Answers (.isRecognized f) s (.fault .constructionError) ∧
    Answers (.kindOf f) s (.fault .constructionError) ∧
    Answers (.parseAny f) s (.fault .constructionError) ∧
    Answers (.decSimpleAction f) s (.fault .constructionError) ∧
    Answers (.decStateInfo f) s (.fault .constructionError) ∧
    Answers (.decCustomHsb f) s (.fault .constructionError) ∧
    Answers (.decStartPattern f) s (.fault .constructionError)

/-- R112 with the pattern of R76: `IS_RECOGNIZED` on a Frame is always `OK`, true exactly when the payload
has at least 3 bytes and the first two match 0x85E8 under the mask 0xE7FF; `r_bool` carries 1 for true and 0
for false. -/
def Obligations.IsRecognizedResult : Prop :=
  (∀ r : Request, r.op = 0x05 → decode (.request r) = .ok (.isRecognized r.f)) ∧
  (∀ (f : OperandFrame) (s : State), 8 < f.fLen.toNat →
    Answers (.isRecognized f) s (.fault .constructionError)) ∧
  (∀ (f : OperandFrame) (s : State), f.fLen.toNat ≤ 8 →
    Answers (.isRecognized f) s (.ok (.recognized (decide (MatchesRecognized (operandPayload f)))))) ∧
  (∀ (b : Bool) (s : State), (responsePorts (respond (.ok (.recognized b)) s)).rBool = BitVec.ofBool b)

/-- R113: `KIND_OF` is `OK` with payload byte 2, on `r_kind`, when the frame is recognized, `ABSENT` when it is
not. -/
def Obligations.KindOfResult : Prop :=
  (∀ r : Request, r.op = 0x06 → decode (.request r) = .ok (.kindOf r.f)) ∧
  (∀ (f : OperandFrame) (s : State), 8 < f.fLen.toNat →
    Answers (.kindOf f) s (.fault .constructionError)) ∧
  (∀ (f : OperandFrame) (s : State), f.fLen.toNat ≤ 8 →
    (MatchesRecognized (operandPayload f) → Answers (.kindOf f) s (.ok (.kind f.fData.d2))) ∧
    (¬ MatchesRecognized (operandPayload f) → Answers (.kindOf f) s .absent)) ∧
  (∀ (k : Byte) (s : State), (responsePorts (respond (.ok (.kind k)) s)).rKind = k)

/-- R114: shorter than 3 bytes is not recognized and has no kind; codes other than 1512 and 4 are not
recognized; with 3 bytes or more, recognition is exactly that the unpacked codes are those.
It is an inference of the spec's own: the spec marks these properties as derived by it from R112 and R113. -/
def Obligations.RecognitionProperties : Prop :=
  ∀ (f : OperandFrame) (s : State), f.fLen.toNat ≤ 8 →
    (f.fLen.toNat < 3 →
      Answers (.isRecognized f) s (.ok (.recognized false)) ∧ Answers (.kindOf f) s .absent) ∧
    (∀ (m : ManufacturerCode) (i : IndustryCode),
      Answers (.unpackHdr f.fLen f.fData.d0 f.fData.d1) s (.ok (.codes m i)) →
      (¬ (m = 1512#11 ∧ i = 4#3) → Answers (.isRecognized f) s (.ok (.recognized false))) ∧
      (3 ≤ f.fLen.toNat → (Answers (.isRecognized f) s (.ok (.recognized true)) ↔ m = 1512#11 ∧ i = 4#3)))

/-- R177: the operations that take a Frame, `MAKE_FRAME` apart, look at its payload only. -/
def Obligations.DecodeSideIgnoresIdentifier : Prop :=
  ∀ (f f' : OperandFrame) (s : State), f.fLen = f'.fLen →
    (f.fLen.toNat ≤ 8 → operandPayload f = operandPayload f') →
    exec (.isRecognized f) s = exec (.isRecognized f') s ∧ exec (.kindOf f) s = exec (.kindOf f') s ∧
    exec (.parseAny f) s = exec (.parseAny f') s ∧
    exec (.decSimpleAction f) s = exec (.decSimpleAction f') s ∧
    exec (.decStateInfo f) s = exec (.decStateInfo f') s ∧
    exec (.decCustomHsb f) s = exec (.decCustomHsb f') s ∧
    exec (.decStartPattern f) s = exec (.decStartPattern f') s

/-! ## The encoders -/

/-- R121: the Frame of `ENC_SIMPLE_ACTION`; always `OK`. -/
def Obligations.EncSimpleActionResult : Prop :=
  (∀ r : Request, r.op = 0x09 → decode (.request r) = .ok (.encSimpleAction r.aSrc r.aDst r.aF0 r.aF1)) ∧
  ∀ (aSrc aDst a sw : Arg) (s : State),
    ∃ id : Identifier, Answers (.buildId 61184 aSrc aDst 6) s (.ok (.identifier id)) ∧
    Answers (.encSimpleAction aSrc aDst a sw) s (.ok (.frame
      ⟨id,
        [0xE8, 0x85, 0x01, BitVec.ofNat 8 a.toNat, BitVec.ofNat 8 sw.toNat, 0x00], 6,
        BitVec.ofNat 8 aSrc.toNat, BitVec.ofNat 8 aDst.toNat⟩))

/-- R122: the Frame of `ENC_STATE_INFO`, with destination 255; always `OK`. -/
def Obligations.EncStateInfoResult : Prop :=
  (∀ r : Request, r.op = 0x0A → decode (.request r) = .ok (.encStateInfo r.aSrc r.aF0 r.aF1 r.aF2)) ∧
  ∀ (aSrc sw st ty : Arg) (s : State),
    Answers (.buildId 61184 aSrc 255 6) s
      (.ok (.identifier (0x18EF0000#29 ||| (BitVec.ofNat 8 aSrc.toNat).setWidth 29))) ∧
    Answers (.encStateInfo aSrc sw st ty) s (.ok (.frame
      ⟨0x18EF0000#29 ||| (BitVec.ofNat 8 aSrc.toNat).setWidth 29,
        [0xE8, 0x85, 0x02, BitVec.ofNat 8 sw.toNat, BitVec.ofNat 8 st.toNat, BitVec.ofNat 8 ty.toNat, 0x00],
        6, BitVec.ofNat 8 aSrc.toNat, 255⟩))

/-- R123: the Frame of `ENC_CUSTOM_HSB`; always `OK`. -/
def Obligations.EncCustomHsbResult : Prop :=
  (∀ r : Request, r.op = 0x0B →
    decode (.request r) = .ok (.encCustomHsb r.aSrc r.aDst r.aF0 r.aF1 r.aF2 r.aF3 r.aF4)) ∧
  ∀ (aSrc aDst a sw h sa b : Arg) (s : State),
    ∃ id : Identifier, Answers (.buildId 61184 aSrc aDst 6) s (.ok (.identifier id)) ∧
    Answers (.encCustomHsb aSrc aDst a sw h sa b) s (.ok (.frame
      ⟨id,
        [0xE8, 0x85, 0x03, BitVec.ofNat 8 a.toNat, BitVec.ofNat 8 sw.toNat, BitVec.ofNat 8 h.toNat,
          BitVec.ofNat 8 sa.toNat, BitVec.ofNat 8 b.toNat], 6,
        BitVec.ofNat 8 aSrc.toNat, BitVec.ofNat 8 aDst.toNat⟩))

/-- R124: the Frame of `ENC_START_PATTERN`; always `OK`. -/
def Obligations.EncStartPatternResult : Prop :=
  (∀ r : Request, r.op = 0x0C → decode (.request r) = .ok (.encStartPattern r.aSrc r.aDst r.aF0 r.aF1)) ∧
  ∀ (aSrc aDst sw p : Arg) (s : State),
    ∃ id : Identifier, Answers (.buildId 61184 aSrc aDst 6) s (.ok (.identifier id)) ∧
    Answers (.encStartPattern aSrc aDst sw p) s (.ok (.frame
      ⟨id,
        [0xE8, 0x85, 0x04, BitVec.ofNat 8 sw.toNat, BitVec.ofNat 8 p.toNat, 0x00], 6,
        BitVec.ofNat 8 aSrc.toNat, BitVec.ofNat 8 aDst.toNat⟩))

/-- R120: the Frame of every encoder has the priority and the source of its identifier, a header that
unpacks to (1512, 4), and at most 8 bytes, so that `MAKE_FRAME` of it gives it back. -/
def Obligations.EncodedFrameIsConsistent : Prop :=
  ∀ (fr : Frame) (s : State) (i : Instr),
    (∃ aSrc aDst a b c d e : Arg, i ∈ [Instr.encSimpleAction aSrc aDst a b, .encStateInfo aSrc a b c,
      .encCustomHsb aSrc aDst a b c d e, .encStartPattern aSrc aDst a b]) →
    Answers i s (.ok (.frame fr)) →
    fr.priority = 6#3 ∧
    fr.identifier.extractLsb' 26 3 = fr.priority ∧ fr.identifier.extractLsb' 0 8 = fr.sourceAddress ∧
    (fr.identifier.extractLsb' 8 8 = fr.destinationAddress ∨
      fr.destinationAddress = 255#8 ∧ fr.identifier.extractLsb' 8 8 = 0#8) ∧
    fr.payload.take 2 = [0xE8#8, 0x85#8] ∧ 6 ≤ fr.payload.length ∧ fr.payload.length ≤ 8 ∧
    Answers (.makeFrame (presentFrame fr)) s (.ok (.frame fr))

/-- R71 and R175: an operand wider than its field acts as the operand masked to the field's width. -/
def Obligations.OverWideOperandsAreMasked : Prop :=
  ∀ (s : State) (x1 x2 x3 x4 x5 x6 x7 : Arg),
    exec (.buildId x1 x2 x3 x4) s =
      exec (.buildId (x1 &&& 0x3FFFF#32) (x2 &&& 0xFF#32) (x3 &&& 0xFF#32) (x4 &&& 0x7#32)) s ∧
    exec (.packHdr x1 x2) s = exec (.packHdr (x1 &&& 0x7FF#32) (x2 &&& 0x7#32)) s ∧
    exec (.encSimpleAction x1 x2 x3 x4) s =
      exec (.encSimpleAction (x1 &&& 0xFF#32) (x2 &&& 0xFF#32) (x3 &&& 0xFF#32) (x4 &&& 0xFF#32)) s ∧
    exec (.encStateInfo x1 x2 x3 x4) s =
      exec (.encStateInfo (x1 &&& 0xFF#32) (x2 &&& 0xFF#32) (x3 &&& 0xFF#32) (x4 &&& 0xFF#32)) s ∧
    exec (.encCustomHsb x1 x2 x3 x4 x5 x6 x7) s =
      exec (.encCustomHsb (x1 &&& 0xFF#32) (x2 &&& 0xFF#32) (x3 &&& 0xFF#32) (x4 &&& 0xFF#32)
        (x5 &&& 0xFF#32) (x6 &&& 0xFF#32) (x7 &&& 0xFF#32)) s ∧
    exec (.encStartPattern x1 x2 x3 x4) s =
      exec (.encStartPattern (x1 &&& 0xFF#32) (x2 &&& 0xFF#32) (x3 &&& 0xFF#32) (x4 &&& 0xFF#32)) s

/-- R125: decoding what an encoder returned gives the variant with the encoded fields (masked to 8 bits) and
the header 1512, 4 and the variant's tag.
It is an inference of the spec's own: the spec marks this law as derived by it from R120 and R130. -/
def Obligations.DecodeOfEncodedFrame : Prop :=
  ∀ (aSrc aDst a b c d e : Arg) (fr : Frame) (s : State),
    (Answers (.encSimpleAction aSrc aDst a b) s (.ok (.frame fr)) →
      Answers (.decSimpleAction (presentFrame fr)) s
        (.ok (.message (.simpleAction ⟨1512, 4, 1⟩ (BitVec.ofNat 8 a.toNat) (BitVec.ofNat 8 b.toNat))))) ∧
    (Answers (.encStateInfo aSrc a b c) s (.ok (.frame fr)) →
      Answers (.decStateInfo (presentFrame fr)) s
        (.ok (.message (.stateInfo ⟨1512, 4, 2⟩ (BitVec.ofNat 8 a.toNat) (BitVec.ofNat 8 b.toNat)
          (BitVec.ofNat 8 c.toNat))))) ∧
    (Answers (.encCustomHsb aSrc aDst a b c d e) s (.ok (.frame fr)) →
      Answers (.decCustomHsb (presentFrame fr)) s
        (.ok (.message (.customHsb ⟨1512, 4, 3⟩ (BitVec.ofNat 8 a.toNat) (BitVec.ofNat 8 b.toNat)
          (BitVec.ofNat 8 c.toNat) (BitVec.ofNat 8 d.toNat) (BitVec.ofNat 8 e.toNat))))) ∧
    (Answers (.encStartPattern aSrc aDst a b) s (.ok (.frame fr)) →
      Answers (.decStartPattern (presentFrame fr)) s
        (.ok (.message (.startPattern ⟨1512, 4, 4⟩ (BitVec.ofNat 8 a.toNat) (BitVec.ofNat 8 b.toNat)))))

/-- R126: a frame of one encoder is absent to the three other decoders, and `PARSE_ANY` answers it as its own
decoder does, with its own variant.
It is an inference of the spec's own: the spec marks these properties as derived by it from R120, R130 and R135. -/
def Obligations.CrossKindAbsentAndDispatched : Prop :=
  ∀ (aSrc aDst a b c d e : Arg) (fr : Frame) (s : State),
    (Answers (.encSimpleAction aSrc aDst a b) s (.ok (.frame fr)) →
      Answers (.decStateInfo (presentFrame fr)) s .absent ∧
      Answers (.decCustomHsb (presentFrame fr)) s .absent ∧
      Answers (.decStartPattern (presentFrame fr)) s .absent ∧
      ∃ h x y, Answers (.parseAny (presentFrame fr)) s (.ok (.message (.simpleAction h x y)))) ∧
    (Answers (.encStateInfo aSrc a b c) s (.ok (.frame fr)) →
      Answers (.decSimpleAction (presentFrame fr)) s .absent ∧
      Answers (.decCustomHsb (presentFrame fr)) s .absent ∧
      Answers (.decStartPattern (presentFrame fr)) s .absent ∧
      ∃ h x y z, Answers (.parseAny (presentFrame fr)) s (.ok (.message (.stateInfo h x y z)))) ∧
    (Answers (.encCustomHsb aSrc aDst a b c d e) s (.ok (.frame fr)) →
      Answers (.decSimpleAction (presentFrame fr)) s .absent ∧
      Answers (.decStateInfo (presentFrame fr)) s .absent ∧
      Answers (.decStartPattern (presentFrame fr)) s .absent ∧
      ∃ h x y z u v, Answers (.parseAny (presentFrame fr)) s (.ok (.message (.customHsb h x y z u v)))) ∧
    (Answers (.encStartPattern aSrc aDst a b) s (.ok (.frame fr)) →
      Answers (.decSimpleAction (presentFrame fr)) s .absent ∧
      Answers (.decStateInfo (presentFrame fr)) s .absent ∧
      Answers (.decCustomHsb (presentFrame fr)) s .absent ∧
      ∃ h x y, Answers (.parseAny (presentFrame fr)) s (.ok (.message (.startPattern h x y))))

/-! ## The decoders and the dispatcher -/

/-- R131: on a Frame, `DEC_SIMPLE_ACTION` is `OK` with bytes 3 and 4 exactly when the payload is of kind 1
and has at least 6 bytes, and `ABSENT` otherwise. -/
def Obligations.DecSimpleActionResult : Prop :=
  (∀ r : Request, r.op = 0x11 → decode (.request r) = .ok (.decSimpleAction r.f)) ∧
  (∀ (f : OperandFrame) (s : State), 8 < f.fLen.toNat →
    Answers (.decSimpleAction f) s (.fault .constructionError)) ∧
  ∀ (f : OperandFrame) (s : State), f.fLen.toNat ≤ 8 →
    (MatchesKind 1 (operandPayload f) ∧ 6 ≤ f.fLen.toNat →
      Answers (.decSimpleAction f) s (.ok (.message (.simpleAction ⟨1512, 4, 1⟩ f.fData.d3 f.fData.d4)))) ∧
    (¬ (MatchesKind 1 (operandPayload f) ∧ 6 ≤ f.fLen.toNat) → Answers (.decSimpleAction f) s .absent)

/-- R132: the same of `DEC_STATE_INFO`, kind 2, 7 bytes, bytes 3 to 5. -/
def Obligations.DecStateInfoResult : Prop :=
  (∀ r : Request, r.op = 0x12 → decode (.request r) = .ok (.decStateInfo r.f)) ∧
  (∀ (f : OperandFrame) (s : State), 8 < f.fLen.toNat →
    Answers (.decStateInfo f) s (.fault .constructionError)) ∧
  ∀ (f : OperandFrame) (s : State), f.fLen.toNat ≤ 8 →
    (MatchesKind 2 (operandPayload f) ∧ 7 ≤ f.fLen.toNat →
      Answers (.decStateInfo f) s
        (.ok (.message (.stateInfo ⟨1512, 4, 2⟩ f.fData.d3 f.fData.d4 f.fData.d5)))) ∧
    (¬ (MatchesKind 2 (operandPayload f) ∧ 7 ≤ f.fLen.toNat) → Answers (.decStateInfo f) s .absent)

/-- R133: the same of `DEC_CUSTOM_HSB`, kind 3, 8 bytes, bytes 3 to 7. -/
def Obligations.DecCustomHsbResult : Prop :=
  (∀ r : Request, r.op = 0x13 → decode (.request r) = .ok (.decCustomHsb r.f)) ∧
  (∀ (f : OperandFrame) (s : State), 8 < f.fLen.toNat →
    Answers (.decCustomHsb f) s (.fault .constructionError)) ∧
  ∀ (f : OperandFrame) (s : State), f.fLen.toNat ≤ 8 →
    (MatchesKind 3 (operandPayload f) ∧ 8 ≤ f.fLen.toNat →
      Answers (.decCustomHsb f) s (.ok (.message
        (.customHsb ⟨1512, 4, 3⟩ f.fData.d3 f.fData.d4 f.fData.d5 f.fData.d6 f.fData.d7)))) ∧
    (¬ (MatchesKind 3 (operandPayload f) ∧ 8 ≤ f.fLen.toNat) → Answers (.decCustomHsb f) s .absent)

/-- R134: the same of `DEC_START_PATTERN`, kind 4, 6 bytes, bytes 3 and 4. -/
def Obligations.DecStartPatternResult : Prop :=
  (∀ r : Request, r.op = 0x14 → decode (.request r) = .ok (.decStartPattern r.f)) ∧
  (∀ (f : OperandFrame) (s : State), 8 < f.fLen.toNat →
    Answers (.decStartPattern f) s (.fault .constructionError)) ∧
  ∀ (f : OperandFrame) (s : State), f.fLen.toNat ≤ 8 →
    (MatchesKind 4 (operandPayload f) ∧ 6 ≤ f.fLen.toNat →
      Answers (.decStartPattern f) s (.ok (.message (.startPattern ⟨1512, 4, 4⟩ f.fData.d3 f.fData.d4)))) ∧
    (¬ (MatchesKind 4 (operandPayload f) ∧ 6 ≤ f.fLen.toNat) → Answers (.decStartPattern f) s .absent)

/-- R135: on a Frame, `PARSE_ANY` answers what the decoder of the kind answers, and is `ABSENT` for every
other kind and for a frame that is not recognized. -/
def Obligations.ParseAnyDispatches : Prop :=
  (∀ r : Request, r.op = 0x07 → decode (.request r) = .ok (.parseAny r.f)) ∧
  (∀ (f : OperandFrame) (s : State), 8 < f.fLen.toNat →
    Answers (.parseAny f) s (.fault .constructionError)) ∧
  ∀ (f : OperandFrame) (s : State), f.fLen.toNat ≤ 8 →
    (MatchesKind 1 (operandPayload f) → exec (.parseAny f) s = exec (.decSimpleAction f) s) ∧
    (MatchesKind 2 (operandPayload f) → exec (.parseAny f) s = exec (.decStateInfo f) s) ∧
    (MatchesKind 3 (operandPayload f) → exec (.parseAny f) s = exec (.decCustomHsb f) s) ∧
    (MatchesKind 4 (operandPayload f) → exec (.parseAny f) s = exec (.decStartPattern f) s) ∧
    ((∀ k : Byte, 1 ≤ k.toNat ∧ k.toNat ≤ 4 → ¬ MatchesKind k (operandPayload f)) →
      Answers (.parseAny f) s .absent)

/-- R136: of the four decoders at most one is `OK` for a frame, and `PARSE_ANY` is `OK` exactly when one of
them is, and then with the same response; it answers by the kind that `KIND_OF` answers.
It is an inference of the spec's own: the spec marks this law as derived by it from R130 and R135. -/
def Obligations.AtMostOneDecoderAnswers : Prop :=
  ∀ (f : OperandFrame) (s : State),
    let ds := [Instr.decSimpleAction f, .decStateInfo f, .decCustomHsb f, .decStartPattern f]
    (∀ i ∈ ds, ∀ j ∈ ds, ∀ v w : Result,
      Answers i s (.ok v) → Answers j s (.ok w) → i = j ∧ v = w) ∧
    (∀ v : Result, Answers (.parseAny f) s (.ok v) ↔ ∃ i ∈ ds, Answers i s (.ok v)) ∧
    (∀ k : Byte, Answers (.kindOf f) s (.ok (.kind k)) →
      (k = 1 → exec (.parseAny f) s = exec (.decSimpleAction f) s) ∧
      (k = 2 → exec (.parseAny f) s = exec (.decStateInfo f) s) ∧
      (k = 3 → exec (.parseAny f) s = exec (.decCustomHsb f) s) ∧
      (k = 4 → exec (.parseAny f) s = exec (.decStartPattern f) s) ∧
      (¬ (1 ≤ k.toNat ∧ k.toNat ≤ 4) → Answers (.parseAny f) s .absent)) ∧
    (Answers (.kindOf f) s .absent → Answers (.parseAny f) s .absent)

/-- R79 and R80: a recognized payload whose kind is not 1 to 4 is recognized, gives its kind, and is absent
to `PARSE_ANY` and to all four decoders. -/
def Obligations.OtherKindsAreAbsent : Prop :=
  ∀ (f : OperandFrame) (k : Byte) (s : State), f.fLen.toNat ≤ 8 → MatchesKind k (operandPayload f) →
    ¬ (1 ≤ k.toNat ∧ k.toNat ≤ 4) →
    Answers (.isRecognized f) s (.ok (.recognized true)) ∧ Answers (.kindOf f) s (.ok (.kind k)) ∧
    Answers (.parseAny f) s .absent ∧ Answers (.decSimpleAction f) s .absent ∧
    Answers (.decStateInfo f) s .absent ∧ Answers (.decCustomHsb f) s .absent ∧
    Answers (.decStartPattern f) s .absent

/-- The four payload formats (R64 to R67, log entry 3): the demultiplexer answers a payload of the format
with its fields, whatever bits 12:11 of its header word (R78), its reserved byte (R81) and the bytes beyond
the required length (R83). -/
def Obligations.PayloadFormatsDecode : Prop :=
  ∀ (hr : BitVec 2) (a b c d e r : Byte) (x : List Byte) (s : State),
    (x.length ≤ 2 → Answers (.payloadSimpleAction hr a b r x) s
      (.ok (.message (.simpleAction ⟨1512, 4, 1⟩ a b)))) ∧
    (x.length ≤ 1 → Answers (.payloadStateInfo hr a b c r x) s
      (.ok (.message (.stateInfo ⟨1512, 4, 2⟩ a b c)))) ∧
    Answers (.payloadCustomHsb hr a b c d e) s (.ok (.message (.customHsb ⟨1512, 4, 3⟩ a b c d e))) ∧
    (x.length ≤ 2 → Answers (.payloadStartPattern hr a b r x) s
      (.ok (.message (.startPattern ⟨1512, 4, 4⟩ a b))))

/-- The rows with no decoder (R79, R80, log entry 3): the demultiplexer answers absent. -/
def Obligations.PayloadsWithoutDecoderAreAbsent : Prop :=
  ∀ (hr : BitVec 2) (k : Byte) (x : List Byte) (s : State), x.length ≤ 5 →
    Answers (.payloadReservedKind5 hr x) s .absent ∧ Answers (.payloadReservedKind6 hr x) s .absent ∧
    Answers (.payloadReservedKind7 hr x) s .absent ∧ Answers (.payloadReservedKind8 hr x) s .absent ∧
    Answers (.payloadReservedKind16 hr x) s .absent ∧
    (¬ (1 ≤ k.toNat ∧ k.toNat ≤ 4) → Answers (.payloadUnassignedKind hr k x) s .absent)

/-- A bare payload, decodable or not, is answered as `PARSE_ANY` answers a frame with it; one of more than 8
bytes, which no frame has, is a construction error (log entries 3 and 7, the model's choice). -/
def Obligations.PayloadAnsweredAsParseAny : Prop :=
  ∀ (s : State) (p : List Byte) (rest : List Input), s.pending = .payload p :: rest →
    (∀ f : OperandFrame, f.fLen.toNat ≤ 8 → operandPayload f = p →
      step s = exec (.parseAny f) { s with pending := rest }) ∧
    (8 < p.length →
      step s = .next (respond (.fault .constructionError) { s with pending := rest }))

/-! ## Outcomes -/

/-- R82 and R145: every request with an unassigned operation select raises `IllegalOp`, whatever its
operands, and each of the sixteen instructions for those codes does. -/
def Obligations.UnassignedCodesRaiseIllegalOp : Prop :=
  (∀ (r : Request) (s : State),
    r.op ∈ [0x08#5, 0x0D#5, 0x0E#5, 0x0F#5, 0x10#5, 0x15#5, 0x16#5, 0x17#5, 0x18#5, 0x19#5, 0x1A#5, 0x1B#5,
      0x1C#5, 0x1D#5, 0x1E#5, 0x1F#5] → Answers (decodeRequest r) s (.fault .illegalOp)) ∧
  (∀ s : State, ∀ i ∈ [Instr.unassignedOp08, .unassignedOp0D, .unassignedOp0E, .unassignedOp0F,
      .unassignedOp10, .unassignedOp15, .unassignedOp16, .unassignedOp17, .unassignedOp18, .unassignedOp19,
      .unassignedOp1A, .unassignedOp1B, .unassignedOp1C, .unassignedOp1D, .unassignedOp1E, .unassignedOp1F],
    Answers i s (.fault .illegalOp)) ∧
  (∀ s : State, (responsePorts (respond (.fault .illegalOp) s)).status = 4#3)

/-- R141: the status port carries 0 for `OK`, 1 for `ABSENT`, 2, 3 and 4 for the three faults, so never 5, 6
or 7. -/
def Obligations.StatusCodesOfOutcomes : Prop :=
  ∀ (s : State) (r : Response),
    (responsePorts (respond r s)).status = match r with
      | .ok _ => 0#3
      | .absent => 1#3
      | .fault .constructionError => 2#3
      | .fault .malformedHeader => 3#3
      | .fault .illegalOp => 4#3

/-- The rows `STATUS_*` (R141, log entry 3): each ends the transaction with its own code on the status port,
and with no result. -/
def Obligations.StatusRowsEndWithTheirCode : Prop :=
  ∀ s : State,
    ∀ q ∈ [(Instr.statusOk, 0#3), (.statusAbsent, 1#3), (.statusConstructionError, 2#3),
      (.statusMalformedHeader, 3#3), (.statusIllegalOp, 4#3)],
    ∃ r : Response, Answers q.1 s r ∧ (∀ v, r = .ok v → v = .notStated) ∧
      responsePorts (respond r s) = { Config.undrivenPorts (s.freeIndex + 1) with status := q.2 }

/-- R151 and R36: on an outcome other than `OK` no port but `status` is driven: every other port carries its
free value. -/
def Obligations.OnlyStatusDrivenWithoutOk : Prop :=
  ∀ (s : State) (r : Response), (∀ v, r ≠ .ok v) →
    responsePorts (respond r s) =
      { Config.undrivenPorts (s.freeIndex + 1) with status := responseStatus r }

/-- R35: a returned Frame of at most 8 bytes drives its ports: `r_len` its length, lane `i` payload byte `i`,
and 0 on the lanes at and beyond the length. -/
def Obligations.FrameOnResponsePorts : Prop :=
  ∀ (s : State) (fr : Frame), fr.payload.length ≤ 8 →
    let p := responsePorts (respond (.ok (.frame fr)) s)
    p.rId = fr.identifier ∧ p.rLen.toNat = fr.payload.length ∧ p.rPrio = fr.priority ∧
    p.rSrc = fr.sourceAddress ∧ p.rDst = fr.destinationAddress ∧
    [p.rData.d0, p.rData.d1, p.rData.d2, p.rData.d3, p.rData.d4, p.rData.d5, p.rData.d6, p.rData.d7] =
      fr.payload ++ List.replicate (8 - fr.payload.length) 0#8

/-- R35: a returned Message drives its header and its fields, and 0 on the fields that its variant lacks. -/
def Obligations.MessageOnResponsePorts : Prop :=
  ∀ (s : State) (h : ProprietaryHeader) (a b c d e : Byte),
    let ports := fun m : Message =>
      let p := responsePorts (respond (.ok (.message m)) s)
      (p.rKind, p.rMfr, p.rInd, p.rG0, p.rG1, p.rG2, p.rG3, p.rG4)
    ports (.simpleAction h a b) = (h.kindId, h.manufacturerCode, h.industryCode, a, b, 0#8, 0#8, 0#8) ∧
    ports (.stateInfo h a b c) = (h.kindId, h.manufacturerCode, h.industryCode, a, b, c, 0#8, 0#8) ∧
    ports (.customHsb h a b c d e) = (h.kindId, h.manufacturerCode, h.industryCode, a, b, c, d, e) ∧
    ports (.startPattern h a b) = (h.kindId, h.manufacturerCode, h.industryCode, a, b, 0#8, 0#8, 0#8)

/-- R142, R143 and R145: which requests end in which fault. A request is answered `IllegalOp` exactly for an
unassigned code, `ConstructionError` exactly for `MAKE_FRAME` and the seven operations that take a Frame with
`f_len` above 8, and `MalformedHeader` exactly for `UNPACK_HDR` with a byte count below 2. -/
def Obligations.FaultsExactlyWhereRaised : Prop :=
  ∀ (r : Request) (s : State),
    (Answers (decodeRequest r) s (.fault .illegalOp) ↔
      r.op ∈ [0x08#5, 0x0D#5, 0x0E#5, 0x0F#5, 0x10#5] ∨ 0x15 ≤ r.op.toNat) ∧
    (Answers (decodeRequest r) s (.fault .constructionError) ↔
      r.op ∈ [0x04#5, 0x05#5, 0x06#5, 0x07#5, 0x11#5, 0x12#5, 0x13#5, 0x14#5] ∧ 8 < r.f.fLen.toNat) ∧
    (Answers (decodeRequest r) s (.fault .malformedHeader) ↔ r.op = 0x03#5 ∧ r.f.fLen.toNat < 2)

/-- A status code of 5, 6 or 7, which is never produced, stops the step (R141, log entry 7, the model's
choice). -/
def Obligations.StatusNeverProducedStops : Prop :=
  ∀ (s : State) (c : StatusCode) (rest : List Input), s.pending = .status c :: rest → 5 ≤ c.toNat →
    step s = .fault .statusNeverProduced
end

