-- ==== Sys2Proof/Laws/State.lean ====
section
/-!
SUPPORT. What each update of the state leaves in each field, and the frame of the answered and idle states.
-/

namespace Sys2Proof.Laws

open Sys2Proof.Machine

@[simp] theorem respond_block (r : Response) (s : State) : (respond r s).block = s.block := rfl
@[simp] theorem respond_pending (r : Response) (s : State) : (respond r s).pending = s.pending := rfl
@[simp] theorem respond_responses (r : Response) (s : State) :
    (respond r s).responses = s.responses ++ [r] := rfl
@[simp] theorem respond_onPorts (r : Response) (s : State) : (respond r s).onPorts = some r := rfl
@[simp] theorem respond_freeIndex (r : Response) (s : State) :
    (respond r s).freeIndex = s.freeIndex + 1 := rfl

@[simp] theorem idle_block (s : State) : (idle s).block = s.block := rfl
@[simp] theorem idle_pending (s : State) : (idle s).pending = s.pending := rfl
@[simp] theorem idle_responses (s : State) : (idle s).responses = s.responses := rfl
@[simp] theorem idle_onPorts (s : State) : (idle s).onPorts = none := rfl
@[simp] theorem idle_freeIndex (s : State) : (idle s).freeIndex = s.freeIndex + 1 := rfl

@[simp] theorem pending_update_block (s : State) (l : List Input) :
    ({ s with pending := l } : State).block = s.block := rfl
@[simp] theorem pending_update_pending (s : State) (l : List Input) :
    ({ s with pending := l } : State).pending = l := rfl
@[simp] theorem pending_update_responses (s : State) (l : List Input) :
    ({ s with pending := l } : State).responses = s.responses := rfl
@[simp] theorem pending_update_onPorts (s : State) (l : List Input) :
    ({ s with pending := l } : State).onPorts = s.onPorts := rfl
@[simp] theorem pending_update_freeIndex (s : State) (l : List Input) :
    ({ s with pending := l } : State).freeIndex = s.freeIndex := rfl

/-- Two responses that leave the same state are the same response. -/
theorem respond_injective {r r' : Response} {s : State} (h : respond r s = respond r' s) : r = r' := by
  have := congrArg State.onPorts h
  simpa using this

end Sys2Proof.Laws
end

