-- ==== Sys2Proof/Laws/Ops.lean ====
section
/-!
SUPPORT. For each shared operation one lemma that says all it can do.
-/

namespace Sys2Proof.Laws

open Sys2Proof.Machine

@[simp] theorem returnOk_eq (v : Result) (s : State) : returnOk v s = .next (respond (.ok v) s) := rfl
@[simp] theorem answerAbsent_eq (s : State) : answerAbsent s = .next (respond .absent s) := rfl
@[simp] theorem raise_eq (f : BlockFault) (s : State) : raise f s = .next (respond (.fault f) s) := rfl
@[simp] theorem answerOptional_some (v : Result) (s : State) :
    answerOptional (some v) s = .next (respond (.ok v) s) := rfl
@[simp] theorem answerOptional_none (s : State) :
    answerOptional none s = .next (respond .absent s) := rfl

/-- An operand frame becomes a Frame exactly when its length is at most 8 (R110). -/
theorem makeFrame_of_le {f : OperandFrame} (h : f.fLen.toNat ≤ 8) :
    makeFrame f = .ok ⟨f.fId, operandPayload f, f.fPrio, f.fSrc, f.fDst⟩ := by
  simp [makeFrame, Config.maxPayload, Nat.not_lt.mpr h]

/-- A length of 9 to 15 is a construction error (R110). -/
theorem makeFrame_of_gt {f : OperandFrame} (h : 8 < f.fLen.toNat) :
    makeFrame f = .error .constructionError := by
  simp [makeFrame, Config.maxPayload, h]

/-- An operation that takes a Frame runs on the Frame of its ports (R111). -/
theorem withFrame_of_le {f : OperandFrame} (k : Frame → State → StepOutcome) (s : State)
    (h : f.fLen.toNat ≤ 8) :
    withFrame f k s = k ⟨f.fId, operandPayload f, f.fPrio, f.fSrc, f.fDst⟩ s := by
  rw [withFrame, makeFrame_of_le h]

/-- An operation that takes a Frame raises a construction error where there is none (R111). -/
theorem withFrame_of_gt {f : OperandFrame} (k : Frame → State → StepOutcome) (s : State)
    (h : 8 < f.fLen.toNat) :
    withFrame f k s = .next (respond (.fault .constructionError) s) := by
  simp [withFrame, makeFrame_of_gt h]

/-- Everything that an operation on a Frame can do. -/
theorem withFrame_cases (f : OperandFrame) (k : Frame → State → StepOutcome) (s : State) :
    (8 < f.fLen.toNat ∧ withFrame f k s = .next (respond (.fault .constructionError) s)) ∨
    (f.fLen.toNat ≤ 8 ∧ withFrame f k s = k ⟨f.fId, operandPayload f, f.fPrio, f.fSrc, f.fDst⟩ s) := by
  rcases Nat.lt_or_ge 8 f.fLen.toNat with h | h
  · exact .inl ⟨h, withFrame_of_gt k s h⟩
  · exact .inr ⟨h, withFrame_of_le k s h⟩

/-- The payload of an operand frame has as many bytes as its length port says, if that is a length of a
Frame. -/
theorem operandPayload_length {f : OperandFrame} (h : f.fLen.toNat ≤ 8) :
    (operandPayload f).length = f.fLen.toNat := by
  simp [operandPayload, lanesToList, h]

/-- Unpacking reads the first two bytes (R101). -/
@[simp] theorem unpackHeader_cons (b0 b1 : Byte) (rest : List Byte) :
    unpackHeader (b0 :: b1 :: rest) =
      .ok (headerManufacturer (wordOfBytes b0 b1), headerIndustry (wordOfBytes b0 b1)) := rfl

/-- Unpacking fewer than two bytes is a malformed header (R101). -/
theorem unpackHeader_short {b : List Byte} (h : b.length < 2) : unpackHeader b = .error .malformedHeader := by
  match b, h with
  | [], _ => rfl
  | [_], _ => rfl

/-- A payload of fewer than three bytes is not recognized (R112). -/
theorem isRecognized_short {f : Frame} (h : f.payload.length < 3) : isRecognized f = false := by
  simp [isRecognized, Config.minRecognized, h]

/-- Recognition of a payload of three bytes or more, on its first two bytes (R112). -/
theorem isRecognized_cons (id : Identifier) (b0 b1 k : Byte) (rest : List Byte) (pr : Priority) (src dst : Byte) :
    isRecognized ⟨id, b0 :: b1 :: k :: rest, pr, src, dst⟩ =
      decide (headerManufacturer (wordOfBytes b0 b1) = Config.mfrCode ∧
        headerIndustry (wordOfBytes b0 b1) = Config.indCode) := by
  simp [isRecognized, Config.minRecognized]

/-- `memWrite` at the end of the payload appends (R14). -/
theorem memWrite_append {q : List Byte} {off : Nat} (bytes : List Byte) (h : q.length = off) :
    memWrite q off bytes = q ++ bytes := by
  subst h
  simp [memWrite]

/-- The `status` port carries the code of the response, whatever the undriven ports carry (R141). -/
@[simp] theorem driveResponse_status (p : ResponsePorts) (r : Response) :
    (driveResponse p r).status = responseStatus r := by
  cases r <;> rfl

end Sys2Proof.Laws
end

