-- ==== Sys2Proof/Laws/Operands.lean ====
section
/-!
SUPPORT. The fields of the identifier and of the header word: placing and extracting are inverse (R72, R73),
a word and its bytes are inverse (R42), and the header of every recognized payload.
-/

namespace Sys2Proof.Laws

open Sys2Proof.Machine

/-! ## The identifier -/

/-- The three fields of an identifier do not overlap: placing them is concatenation (R60, R72). -/
theorem joinIdentifier_eq_append (p : Priority) (n : ProtocolNumber) (src : Byte) :
    joinIdentifier p n src = p ++ n ++ src := by
  apply BitVec.eq_of_getLsbD_eq; intro i hi
  simp only [joinIdentifier, BitVec.getLsbD_or, BitVec.getLsbD_shiftLeft, BitVec.getLsbD_setWidth,
    BitVec.getLsbD_append]
  interval_cases i <;> simp

theorem idPriority_joinIdentifier (p : Priority) (n : ProtocolNumber) (src : Byte) :
    idPriority (joinIdentifier p n src) = p := by
  rw [joinIdentifier_eq_append]; ext i hi
  simp only [idPriority, BitVec.getElem_extractLsb', BitVec.getLsbD_append]
  interval_cases i <;> simp

theorem idRegion_joinIdentifier (p : Priority) (n : ProtocolNumber) (src : Byte) :
    idRegion (joinIdentifier p n src) = n := by
  rw [joinIdentifier_eq_append]; ext i hi
  simp only [idRegion, BitVec.getElem_extractLsb', BitVec.getLsbD_append]
  interval_cases i <;> simp

theorem idSource_joinIdentifier (p : Priority) (n : ProtocolNumber) (src : Byte) :
    idSource (joinIdentifier p n src) = src := by
  rw [joinIdentifier_eq_append]; ext i hi
  simp only [idSource, BitVec.getElem_extractLsb', BitVec.getLsbD_append]
  interval_cases i <;> simp

/-- The three fields are the whole identifier. -/
theorem joinIdentifier_fields (id : Identifier) :
    joinIdentifier (idPriority id) (idRegion id) (idSource id) = id := by
  rw [joinIdentifier_eq_append]; ext i hi
  simp only [idPriority, idRegion, idSource, BitVec.getElem_append, BitVec.getElem_extractLsb']
  interval_cases i <;> simp

/-! ## The header word -/

/-- The three fields of a header word do not overlap: placing them is concatenation (R62, R72). -/
theorem joinHeaderWord_eq_append (m : ManufacturerCode) (r : BitVec 2) (i : IndustryCode) :
    joinHeaderWord m r i = i ++ r ++ m := by
  apply BitVec.eq_of_getLsbD_eq; intro i hi
  simp only [joinHeaderWord, BitVec.getLsbD_or, BitVec.getLsbD_shiftLeft, BitVec.getLsbD_setWidth,
    BitVec.getLsbD_append]
  interval_cases i <;> simp

theorem headerManufacturer_joinHeaderWord (m : ManufacturerCode) (r : BitVec 2) (i : IndustryCode) :
    headerManufacturer (joinHeaderWord m r i) = m := by
  rw [joinHeaderWord_eq_append]; ext i hi
  simp only [headerManufacturer, BitVec.getElem_extractLsb', BitVec.getLsbD_append]
  interval_cases i <;> simp

theorem headerReserved_joinHeaderWord (m : ManufacturerCode) (r : BitVec 2) (i : IndustryCode) :
    headerReserved (joinHeaderWord m r i) = r := by
  rw [joinHeaderWord_eq_append]; ext i hi
  simp only [headerReserved, BitVec.getElem_extractLsb', BitVec.getLsbD_append]
  interval_cases i <;> simp

theorem headerIndustry_joinHeaderWord (m : ManufacturerCode) (r : BitVec 2) (i : IndustryCode) :
    headerIndustry (joinHeaderWord m r i) = i := by
  rw [joinHeaderWord_eq_append]; ext i hi
  simp only [headerIndustry, BitVec.getElem_extractLsb', BitVec.getLsbD_append]
  interval_cases i <;> simp

/-- The three fields are the whole header word. -/
theorem joinHeaderWord_fields (w : HeaderWord) :
    joinHeaderWord (headerManufacturer w) (headerReserved w) (headerIndustry w) = w := by
  rw [joinHeaderWord_eq_append]; ext i hi
  simp only [headerManufacturer, headerReserved, headerIndustry, BitVec.getElem_append,
    BitVec.getElem_extractLsb']
  interval_cases i <;> simp

/-! ## The word and its bytes (R42) -/

theorem wordOfBytes_extract (w : HeaderWord) : wordOfBytes (w.extractLsb' 0 8) (w.extractLsb' 8 8) = w := by
  apply BitVec.eq_of_getLsbD_eq; intro i hi
  simp only [wordOfBytes, BitVec.getLsbD_append, BitVec.getLsbD_extractLsb']
  interval_cases i <;> simp

theorem extract_wordOfBytes_low (b0 b1 : Byte) : (wordOfBytes b0 b1).extractLsb' 0 8 = b0 := by
  ext i hi
  simp only [wordOfBytes, BitVec.getElem_extractLsb', BitVec.getLsbD_append]
  interval_cases i <;> simp

theorem extract_wordOfBytes_high (b0 b1 : Byte) : (wordOfBytes b0 b1).extractLsb' 8 8 = b1 := by
  ext i hi
  simp only [wordOfBytes, BitVec.getElem_extractLsb', BitVec.getLsbD_append]
  interval_cases i <;> simp

/-- The header of a recognized payload is two bytes with the constants and the given reserved bits (R62). -/
theorem recognizedHeader_bytes (hr : BitVec 2) :
    ∃ b0 b1, recognizedHeader hr = [b0, b1] ∧ headerManufacturer (wordOfBytes b0 b1) = Config.mfrCode ∧
      headerIndustry (wordOfBytes b0 b1) = Config.indCode ∧ headerReserved (wordOfBytes b0 b1) = hr := by
  refine ⟨_, _, rfl, ?_, ?_, ?_⟩ <;> revert hr <;> decide

/-- A recognized payload has its three header bytes and the bytes after them (R63). -/
theorem recognizedPayload_length (hr : BitVec 2) (k : Byte) (rest : List Byte) :
    (recognizedPayload hr k rest).length = 3 + rest.length := by
  simp [recognizedPayload, recognizedHeader, wordBytes]; omega

end Sys2Proof.Laws
end

