-- ==== Sys2Proof/Laws/PerInstr.lean ====
section
/-!
SUPPORT. A family of statements about every instruction: the encoder puts each instruction on the row that
spec/opcode_table.json gives it. The masks and matches are the table's, written out row by row.
-/

namespace Sys2Proof.Laws

open Sys2Proof.Machine

/-- The number that a row's mask and match are over: the operation select, the first three payload bytes
(R76), the identifier, the header word, or the status code. -/
def tableNumber : Input → BitVec 32
  | .request r => r.op.setWidth 32
  | .identifier id => id.setWidth 32
  | .headerWord w => w.setWidth 32
  | .payload p => (firstThree p).setWidth 32
  | .status c => c.setWidth 32

/-- The mask and the match of the instruction's row in spec/opcode_table.json. The row `HEADER_WORD` gives
the recognition pattern, which a header word may but need not match (R62), so its mask is 0 here. -/
def tableRow : Instr → BitVec 32 × BitVec 32
  | .buildId _ _ _ _ => (0x1F, 0x00)
  | .decomposeId _ => (0x1F, 0x01)
  | .packHdr _ _ => (0x1F, 0x02)
  | .unpackHdr _ _ _ => (0x1F, 0x03)
  | .makeFrame _ => (0x1F, 0x04)
  | .isRecognized _ => (0x1F, 0x05)
  | .kindOf _ => (0x1F, 0x06)
  | .parseAny _ => (0x1F, 0x07)
  | .encSimpleAction _ _ _ _ => (0x1F, 0x09)
  | .encStateInfo _ _ _ _ => (0x1F, 0x0A)
  | .encCustomHsb _ _ _ _ _ _ _ => (0x1F, 0x0B)
  | .encStartPattern _ _ _ _ => (0x1F, 0x0C)
  | .decSimpleAction _ => (0x1F, 0x11)
  | .decStateInfo _ => (0x1F, 0x12)
  | .decCustomHsb _ => (0x1F, 0x13)
  | .decStartPattern _ => (0x1F, 0x14)
  | .unassignedOp08 => (0x1F, 0x08)
  | .unassignedOp0D => (0x1F, 0x0D)
  | .unassignedOp0E => (0x1F, 0x0E)
  | .unassignedOp0F => (0x1F, 0x0F)
  | .unassignedOp10 => (0x1F, 0x10)
  | .unassignedOp15 => (0x1F, 0x15)
  | .unassignedOp16 => (0x1F, 0x16)
  | .unassignedOp17 => (0x1F, 0x17)
  | .unassignedOp18 => (0x1F, 0x18)
  | .unassignedOp19 => (0x1F, 0x19)
  | .unassignedOp1A => (0x1F, 0x1A)
  | .unassignedOp1B => (0x1F, 0x1B)
  | .unassignedOp1C => (0x1F, 0x1C)
  | .unassignedOp1D => (0x1F, 0x1D)
  | .unassignedOp1E => (0x1F, 0x1E)
  | .unassignedOp1F => (0x1F, 0x1F)
  | .payloadSimpleAction _ _ _ _ _ => (0xFFE7FF, 0x0185E8)
  | .payloadStateInfo _ _ _ _ _ _ => (0xFFE7FF, 0x0285E8)
  | .payloadCustomHsb _ _ _ _ _ _ => (0xFFE7FF, 0x0385E8)
  | .payloadStartPattern _ _ _ _ _ => (0xFFE7FF, 0x0485E8)
  | .payloadReservedKind5 _ _ => (0xFFE7FF, 0x0585E8)
  | .payloadReservedKind6 _ _ => (0xFFE7FF, 0x0685E8)
  | .payloadReservedKind7 _ _ => (0xFFE7FF, 0x0785E8)
  | .payloadReservedKind8 _ _ => (0xFFE7FF, 0x0885E8)
  | .payloadReservedKind16 _ _ => (0xFFE7FF, 0x1085E8)
  | .payloadUnassignedKind _ _ _ => (0x00E7FF, 0x0085E8)
  | .identifier _ _ _ => (0x00000000, 0x00000000)
  | .headerWord _ _ _ => (0x0, 0x0)
  | .statusOk => (0x7, 0x0)
  | .statusAbsent => (0x7, 0x1)
  | .statusConstructionError => (0x7, 0x2)
  | .statusMalformedHeader => (0x7, 0x3)
  | .statusIllegalOp => (0x7, 0x4)

/-- The encoding of a well-formed instruction matches its row. -/
def TableRow.Statement (i : Instr) : Prop :=
  i.WellFormed = true → tableNumber (encode i) &&& (tableRow i).1 = (tableRow i).2

/-- The first three bytes of a recognized payload do not depend on the bytes after them. -/
theorem firstThree_recognized (hr : BitVec 2) (k : Byte) (rest : List Byte) :
    firstThree (recognizedPayload hr k rest) = firstThree (recognizedPayload hr k []) := rfl

/-- A recognized payload matches the pattern of its kind (R76). -/
theorem kind_matches : ∀ (hr : BitVec 2) (k : Byte),
    (firstThree (recognizedPayload hr k [])).setWidth 32 &&& 0xFFE7FF =
      0x0085E8#32 ||| (k.setWidth 32 <<< 16) := by
  decide

/-- A recognized payload matches the recognition pattern (R76). -/
theorem recognized_matches : ∀ (hr : BitVec 2) (k : Byte),
    (firstThree (recognizedPayload hr k [])).setWidth 32 &&& 0x00E7FF = (0x0085E8 : BitVec 32) := by
  decide

theorem TableRow.buildId (aPn aSrc aDst aPrio : Arg) :
    TableRow.Statement (.buildId aPn aSrc aDst aPrio) := fun _ =>
  show (0x00 : OpCode).setWidth 32 &&& 0x1F = (0x00 : BitVec 32) by decide

theorem TableRow.decomposeId (fId : Identifier) :
    TableRow.Statement (.decomposeId fId) := fun _ =>
  show (0x01 : OpCode).setWidth 32 &&& 0x1F = (0x01 : BitVec 32) by decide

theorem TableRow.packHdr (aMfr aInd : Arg) :
    TableRow.Statement (.packHdr aMfr aInd) := fun _ =>
  show (0x02 : OpCode).setWidth 32 &&& 0x1F = (0x02 : BitVec 32) by decide

theorem TableRow.unpackHdr (fLen : Len) (b0 b1 : Byte) :
    TableRow.Statement (.unpackHdr fLen b0 b1) := fun _ =>
  show (0x03 : OpCode).setWidth 32 &&& 0x1F = (0x03 : BitVec 32) by decide

theorem TableRow.makeFrame (f : OperandFrame) :
    TableRow.Statement (.makeFrame f) := fun _ =>
  show (0x04 : OpCode).setWidth 32 &&& 0x1F = (0x04 : BitVec 32) by decide

theorem TableRow.isRecognized (f : OperandFrame) :
    TableRow.Statement (.isRecognized f) := fun _ =>
  show (0x05 : OpCode).setWidth 32 &&& 0x1F = (0x05 : BitVec 32) by decide

theorem TableRow.kindOf (f : OperandFrame) :
    TableRow.Statement (.kindOf f) := fun _ =>
  show (0x06 : OpCode).setWidth 32 &&& 0x1F = (0x06 : BitVec 32) by decide

theorem TableRow.parseAny (f : OperandFrame) :
    TableRow.Statement (.parseAny f) := fun _ =>
  show (0x07 : OpCode).setWidth 32 &&& 0x1F = (0x07 : BitVec 32) by decide

theorem TableRow.encSimpleAction (aSrc aDst actionId switchId : Arg) :
    TableRow.Statement (.encSimpleAction aSrc aDst actionId switchId) := fun _ =>
  show (0x09 : OpCode).setWidth 32 &&& 0x1F = (0x09 : BitVec 32) by decide

theorem TableRow.encStateInfo (aSrc switchId switchState switchType : Arg) :
    TableRow.Statement (.encStateInfo aSrc switchId switchState switchType) := fun _ =>
  show (0x0A : OpCode).setWidth 32 &&& 0x1F = (0x0A : BitVec 32) by decide

theorem TableRow.encCustomHsb (aSrc aDst actionId switchId hue saturation brightness : Arg) :
    TableRow.Statement (.encCustomHsb aSrc aDst actionId switchId hue saturation brightness) := fun _ =>
  show (0x0B : OpCode).setWidth 32 &&& 0x1F = (0x0B : BitVec 32) by decide

theorem TableRow.encStartPattern (aSrc aDst switchId patternId : Arg) :
    TableRow.Statement (.encStartPattern aSrc aDst switchId patternId) := fun _ =>
  show (0x0C : OpCode).setWidth 32 &&& 0x1F = (0x0C : BitVec 32) by decide

theorem TableRow.decSimpleAction (f : OperandFrame) :
    TableRow.Statement (.decSimpleAction f) := fun _ =>
  show (0x11 : OpCode).setWidth 32 &&& 0x1F = (0x11 : BitVec 32) by decide

theorem TableRow.decStateInfo (f : OperandFrame) :
    TableRow.Statement (.decStateInfo f) := fun _ =>
  show (0x12 : OpCode).setWidth 32 &&& 0x1F = (0x12 : BitVec 32) by decide

theorem TableRow.decCustomHsb (f : OperandFrame) :
    TableRow.Statement (.decCustomHsb f) := fun _ =>
  show (0x13 : OpCode).setWidth 32 &&& 0x1F = (0x13 : BitVec 32) by decide

theorem TableRow.decStartPattern (f : OperandFrame) :
    TableRow.Statement (.decStartPattern f) := fun _ =>
  show (0x14 : OpCode).setWidth 32 &&& 0x1F = (0x14 : BitVec 32) by decide

theorem TableRow.unassignedOp08 :
    TableRow.Statement .unassignedOp08 := fun _ =>
  show (0x08 : OpCode).setWidth 32 &&& 0x1F = (0x08 : BitVec 32) by decide

theorem TableRow.unassignedOp0D :
    TableRow.Statement .unassignedOp0D := fun _ =>
  show (0x0D : OpCode).setWidth 32 &&& 0x1F = (0x0D : BitVec 32) by decide

theorem TableRow.unassignedOp0E :
    TableRow.Statement .unassignedOp0E := fun _ =>
  show (0x0E : OpCode).setWidth 32 &&& 0x1F = (0x0E : BitVec 32) by decide

theorem TableRow.unassignedOp0F :
    TableRow.Statement .unassignedOp0F := fun _ =>
  show (0x0F : OpCode).setWidth 32 &&& 0x1F = (0x0F : BitVec 32) by decide

theorem TableRow.unassignedOp10 :
    TableRow.Statement .unassignedOp10 := fun _ =>
  show (0x10 : OpCode).setWidth 32 &&& 0x1F = (0x10 : BitVec 32) by decide

theorem TableRow.unassignedOp15 :
    TableRow.Statement .unassignedOp15 := fun _ =>
  show (0x15 : OpCode).setWidth 32 &&& 0x1F = (0x15 : BitVec 32) by decide

theorem TableRow.unassignedOp16 :
    TableRow.Statement .unassignedOp16 := fun _ =>
  show (0x16 : OpCode).setWidth 32 &&& 0x1F = (0x16 : BitVec 32) by decide

theorem TableRow.unassignedOp17 :
    TableRow.Statement .unassignedOp17 := fun _ =>
  show (0x17 : OpCode).setWidth 32 &&& 0x1F = (0x17 : BitVec 32) by decide

theorem TableRow.unassignedOp18 :
    TableRow.Statement .unassignedOp18 := fun _ =>
  show (0x18 : OpCode).setWidth 32 &&& 0x1F = (0x18 : BitVec 32) by decide

theorem TableRow.unassignedOp19 :
    TableRow.Statement .unassignedOp19 := fun _ =>
  show (0x19 : OpCode).setWidth 32 &&& 0x1F = (0x19 : BitVec 32) by decide

theorem TableRow.unassignedOp1A :
    TableRow.Statement .unassignedOp1A := fun _ =>
  show (0x1A : OpCode).setWidth 32 &&& 0x1F = (0x1A : BitVec 32) by decide

theorem TableRow.unassignedOp1B :
    TableRow.Statement .unassignedOp1B := fun _ =>
  show (0x1B : OpCode).setWidth 32 &&& 0x1F = (0x1B : BitVec 32) by decide

theorem TableRow.unassignedOp1C :
    TableRow.Statement .unassignedOp1C := fun _ =>
  show (0x1C : OpCode).setWidth 32 &&& 0x1F = (0x1C : BitVec 32) by decide

theorem TableRow.unassignedOp1D :
    TableRow.Statement .unassignedOp1D := fun _ =>
  show (0x1D : OpCode).setWidth 32 &&& 0x1F = (0x1D : BitVec 32) by decide

theorem TableRow.unassignedOp1E :
    TableRow.Statement .unassignedOp1E := fun _ =>
  show (0x1E : OpCode).setWidth 32 &&& 0x1F = (0x1E : BitVec 32) by decide

theorem TableRow.unassignedOp1F :
    TableRow.Statement .unassignedOp1F := fun _ =>
  show (0x1F : OpCode).setWidth 32 &&& 0x1F = (0x1F : BitVec 32) by decide

theorem TableRow.payloadSimpleAction (hdrReserved : BitVec 2) (actionId switchId reserved : Byte) (extra : List Byte) :
    TableRow.Statement (.payloadSimpleAction hdrReserved actionId switchId reserved extra) := fun _ =>
  (kind_matches hdrReserved Config.kindSimpleAction).trans (show _ = 0x0185E8#32 by decide)

theorem TableRow.payloadStateInfo (hdrReserved : BitVec 2) (switchId switchState switchType reserved : Byte) (extra : List Byte) :
    TableRow.Statement (.payloadStateInfo hdrReserved switchId switchState switchType reserved extra) := fun _ =>
  (kind_matches hdrReserved Config.kindStateInfo).trans (show _ = 0x0285E8#32 by decide)

theorem TableRow.payloadCustomHsb (hdrReserved : BitVec 2) (actionId switchId hue saturation brightness : Byte) :
    TableRow.Statement (.payloadCustomHsb hdrReserved actionId switchId hue saturation brightness) := fun _ =>
  (kind_matches hdrReserved Config.kindCustomHsb).trans (show _ = 0x0385E8#32 by decide)

theorem TableRow.payloadStartPattern (hdrReserved : BitVec 2) (switchId patternId reserved : Byte) (extra : List Byte) :
    TableRow.Statement (.payloadStartPattern hdrReserved switchId patternId reserved extra) := fun _ =>
  (kind_matches hdrReserved Config.kindStartPattern).trans (show _ = 0x0485E8#32 by decide)

theorem TableRow.payloadReservedKind5 (hdrReserved : BitVec 2) (rest : List Byte) :
    TableRow.Statement (.payloadReservedKind5 hdrReserved rest) := fun _ =>
  (kind_matches hdrReserved 5).trans (show _ = 0x0585E8#32 by decide)

theorem TableRow.payloadReservedKind6 (hdrReserved : BitVec 2) (rest : List Byte) :
    TableRow.Statement (.payloadReservedKind6 hdrReserved rest) := fun _ =>
  (kind_matches hdrReserved 6).trans (show _ = 0x0685E8#32 by decide)

theorem TableRow.payloadReservedKind7 (hdrReserved : BitVec 2) (rest : List Byte) :
    TableRow.Statement (.payloadReservedKind7 hdrReserved rest) := fun _ =>
  (kind_matches hdrReserved 7).trans (show _ = 0x0785E8#32 by decide)

theorem TableRow.payloadReservedKind8 (hdrReserved : BitVec 2) (rest : List Byte) :
    TableRow.Statement (.payloadReservedKind8 hdrReserved rest) := fun _ =>
  (kind_matches hdrReserved 8).trans (show _ = 0x0885E8#32 by decide)

theorem TableRow.payloadReservedKind16 (hdrReserved : BitVec 2) (rest : List Byte) :
    TableRow.Statement (.payloadReservedKind16 hdrReserved rest) := fun _ =>
  (kind_matches hdrReserved 16).trans (show _ = 0x1085E8#32 by decide)

theorem TableRow.payloadUnassignedKind (hdrReserved : BitVec 2) (kind : Byte) (rest : List Byte) :
    TableRow.Statement (.payloadUnassignedKind hdrReserved kind rest) := fun _ => recognized_matches hdrReserved kind

theorem TableRow.identifier (priority : Priority) (region : ProtocolNumber) (source : Byte) :
    TableRow.Statement (.identifier priority region source) := fun _ => BitVec.and_zero

theorem TableRow.headerWord (manufacturerCode : ManufacturerCode) (reserved : BitVec 2) (industryCode : IndustryCode) :
    TableRow.Statement (.headerWord manufacturerCode reserved industryCode) := fun _ => BitVec.and_zero

theorem TableRow.statusOk :
    TableRow.Statement .statusOk := fun _ => rfl

theorem TableRow.statusAbsent :
    TableRow.Statement .statusAbsent := fun _ => rfl

theorem TableRow.statusConstructionError :
    TableRow.Statement .statusConstructionError := fun _ => rfl

theorem TableRow.statusMalformedHeader :
    TableRow.Statement .statusMalformedHeader := fun _ => rfl

theorem TableRow.statusIllegalOp :
    TableRow.Statement .statusIllegalOp := fun _ => rfl

end Sys2Proof.Laws
end

