-- ==== Sys2Proof/Laws/Validator.lean ====
section
/-!
SUPPORT. The validator against the match patterns of R76, and what a decoder can answer (R130).
-/

namespace Sys2Proof.Laws

open Sys2Proof.Machine

/-- Two concatenations of the same widths are equal only if their parts are. -/
theorem append_parts {w v : Nat} {a a' : BitVec w} {b b' : BitVec v} (h : a ++ b = a' ++ b') :
    a = a' ∧ b = b' := by
  constructor
  · ext i hi
    have := congrArg (fun x => x.getLsbD (i + v)) h
    simpa [BitVec.getLsbD_append, BitVec.getLsbD_eq_getElem hi] using this
  · ext i hi
    have := congrArg (fun x => x.getLsbD i) h
    simpa [BitVec.getLsbD_append, BitVec.getLsbD_eq_getElem hi, hi] using this

/-- The mask of a kind's match pattern keeps the two codes and the kind tag (R76). -/
theorem mask_kind (k b1 b0 : Byte) : (k ++ b1 ++ b0) &&& 0xFFE7FF#24 =
    (k ++ headerIndustry (wordOfBytes b0 b1) ++ 0#2 ++ headerManufacturer (wordOfBytes b0 b1)) := by
  ext i hi
  simp only [headerIndustry, headerManufacturer, wordOfBytes, BitVec.getElem_and, BitVec.getElem_append,
    BitVec.getElem_extractLsb', BitVec.getLsbD_append]
  interval_cases i <;> simp [BitVec.getLsbD_eq_getElem]

/-- The mask of the recognition pattern keeps the two codes (R76). -/
theorem mask_recognized (k b1 b0 : Byte) : (k ++ b1 ++ b0) &&& 0x00E7FF#24 =
    (0#8 ++ headerIndustry (wordOfBytes b0 b1) ++ 0#2 ++ headerManufacturer (wordOfBytes b0 b1)) := by
  ext i hi
  simp only [headerIndustry, headerManufacturer, wordOfBytes, BitVec.getElem_and, BitVec.getElem_append,
    BitVec.getElem_extractLsb', BitVec.getLsbD_append]
  interval_cases i <;> simp [BitVec.getLsbD_eq_getElem]

/-- The recognition pattern on three bytes is the comparison of the two codes (R76, R112). -/
theorem matches_recognized_bytes (k b1 b0 : Byte) : (k ++ b1 ++ b0) &&& 0x00E7FF#24 = 0x0085E8#24 ↔
    headerManufacturer (wordOfBytes b0 b1) = Config.mfrCode ∧
      headerIndustry (wordOfBytes b0 b1) = Config.indCode := by
  rw [mask_recognized, show 0x0085E8#24 = (0#8 ++ 4#3 ++ 0#2 ++ 1512#11) by decide]
  constructor
  · intro h
    obtain ⟨h1, h2⟩ := append_parts h
    exact ⟨h2, (append_parts (append_parts h1).1).2⟩
  · rintro ⟨h1, h2⟩; simp [h1, h2]

/-- A kind's pattern on three bytes is the comparison of the two codes and of the kind tag (R76). -/
theorem matches_kind_bytes (k k' b1 b0 : Byte) :
    (k ++ b1 ++ b0) &&& 0xFFE7FF#24 = 0x0085E8#24 ||| (k'.setWidth 24 <<< 16) ↔
    headerManufacturer (wordOfBytes b0 b1) = Config.mfrCode ∧
      headerIndustry (wordOfBytes b0 b1) = Config.indCode ∧ k = k' := by
  have e : 0x0085E8#24 ||| (k'.setWidth 24 <<< 16) = (k' ++ 4#3 ++ 0#2 ++ 1512#11) := by
    revert k'; decide
  rw [mask_kind, e]
  constructor
  · intro h
    obtain ⟨h1, h2⟩ := append_parts h
    obtain ⟨h0, h1⟩ := append_parts (append_parts h1).1
    exact ⟨h2, h1, h0⟩
  · rintro ⟨h1, h2, h3⟩; simp [h1, h2, h3]

/-- The validator is the recognition pattern (R76, R112). -/
theorem isRecognized_eq_matches (fr : Frame) : isRecognized fr = decide (MatchesRecognized fr.payload) := by
  obtain ⟨id, p, a, b, c⟩ := fr
  match p with
  | [] => rfl
  | [_] => rfl
  | [_, _] => rfl
  | b0 :: b1 :: k :: rest =>
    rw [isRecognized_cons, decide_eq_decide]
    have h : MatchesRecognized (b0 :: b1 :: k :: rest) ↔ _ :=
      Iff.trans (by simp [MatchesRecognized, firstThree]) (matches_recognized_bytes k b1 b0)
    exact h.symm

/-- A payload is of a kind when it is recognized and byte 2 is the kind (R76). -/
theorem matchesKind_iff_recognized (k : Byte) (p : List Byte) :
    MatchesKind k p ↔ MatchesRecognized p ∧ p[2]? = some k := by
  match p with
  | [] => simp [MatchesKind]
  | [_] => simp [MatchesKind]
  | [_, _] => simp [MatchesKind]
  | b0 :: b1 :: k' :: rest =>
    have e1 : MatchesKind k (b0 :: b1 :: k' :: rest) ↔ _ :=
      Iff.trans (by simp [MatchesKind, firstThree]) (matches_kind_bytes k' k b1 b0)
    have e2 : MatchesRecognized (b0 :: b1 :: k' :: rest) ↔ _ :=
      Iff.trans (by simp [MatchesRecognized, firstThree]) (matches_recognized_bytes k' b1 b0)
    rw [e1, e2]; simp; tauto

/-- `kindOf` answers a kind exactly for a payload of that kind (R113). -/
theorem kindOf_eq_some_iff (fr : Frame) (k : Byte) : kindOf fr = some k ↔ MatchesKind k fr.payload := by
  rw [matchesKind_iff_recognized, kindOf, isRecognized_eq_matches, memReadByte]
  by_cases h : MatchesRecognized fr.payload
  · simp [h]; exact fun _ => h
  · simp [h]

/-- `kindOf` is absent exactly for a payload that is not recognized (R113). -/
theorem kindOf_eq_none_iff (fr : Frame) : kindOf fr = none ↔ ¬ MatchesRecognized fr.payload := by
  rw [kindOf, isRecognized_eq_matches, memReadByte]
  by_cases h : MatchesRecognized fr.payload
  · have := h.1
    simp [h]; omega
  · simp [h]

/-- A decoder is absent for another kind or a payload that is too short (R130). -/
theorem decodeVariant_absent {k : Byte} {len : Nat} {fields : ProprietaryHeader → List Byte → Option Message}
    {fr : Frame} (h : ¬ (MatchesKind k fr.payload ∧ len ≤ fr.payload.length)) :
    decodeVariant k len fields fr = none := by
  unfold decodeVariant
  split; · rfl
  split; · rfl
  rename_i h1 h2
  simp only [ne_eq, Decidable.not_not] at h1
  rw [kindOf_eq_some_iff] at h1
  exact absurd ⟨h1, by omega⟩ h

/-- A decoder reads its fields from a payload of its kind and length, with the constants in the header
(R130). -/
theorem decodeVariant_reads {k : Byte} {len : Nat} {fields : ProprietaryHeader → List Byte → Option Message}
    {fr : Frame} (h : MatchesKind k fr.payload ∧ len ≤ fr.payload.length) :
    decodeVariant k len fields fr = fields (expectedHeader k) (fr.payload.drop 3) := by
  obtain ⟨h1, h2⟩ := h
  unfold decodeVariant
  rw [if_neg (by simp [kindOf_eq_some_iff, h1]), if_neg (by omega)]
  obtain ⟨id, p, a, b, c⟩ := fr
  match p, h1 with
  | b0 :: b1 :: k' :: rest, h1 =>
    have := (matches_kind_bytes k' k b1 b0).1 (by simpa [firstThree] using h1.2)
    simp [this.1, this.2.1, expectedHeader]
  | [], h1 => exact absurd h1.1 (by simp)
  | [_], h1 => exact absurd h1.1 (by simp)
  | [_, _], h1 => exact absurd h1.1 (by simp)

end Sys2Proof.Laws
end

