-- ==== Sys2Proof/Machine/Written.lean ====
section
/-!
DEFINITION. How a transaction is written (spec/30_encoding.md rule R84): the names of spec/00_scope.md rule
R18 and of the table rows, the operands by name, the outcome by the name of R141, and the results. No
operation reads any of it.
-/

namespace Sys2Proof.Machine

/-! ## Names -/

/-- The mnemonic of an instruction: R18 for the operations, the table's name for the other rows. -/
def mnemonic : Instr → String
  | .buildId _ _ _ _ => "BUILD_ID"
  | .decomposeId _ => "DECOMPOSE_ID"
  | .packHdr _ _ => "PACK_HDR"
  | .unpackHdr _ _ _ => "UNPACK_HDR"
  | .makeFrame _ => "MAKE_FRAME"
  | .isRecognized _ => "IS_RECOGNIZED"
  | .kindOf _ => "KIND_OF"
  | .parseAny _ => "PARSE_ANY"
  | .encSimpleAction _ _ _ _ => "ENC_SIMPLE_ACTION"
  | .encStateInfo _ _ _ _ => "ENC_STATE_INFO"
  | .encCustomHsb _ _ _ _ _ _ _ => "ENC_CUSTOM_HSB"
  | .encStartPattern _ _ _ _ => "ENC_START_PATTERN"
  | .decSimpleAction _ => "DEC_SIMPLE_ACTION"
  | .decStateInfo _ => "DEC_STATE_INFO"
  | .decCustomHsb _ => "DEC_CUSTOM_HSB"
  | .decStartPattern _ => "DEC_START_PATTERN"
  | .unassignedOp08 => "UNASSIGNED_OP_08"
  | .unassignedOp0D => "UNASSIGNED_OP_0D"
  | .unassignedOp0E => "UNASSIGNED_OP_0E"
  | .unassignedOp0F => "UNASSIGNED_OP_0F"
  | .unassignedOp10 => "UNASSIGNED_OP_10"
  | .unassignedOp15 => "UNASSIGNED_OP_15"
  | .unassignedOp16 => "UNASSIGNED_OP_16"
  | .unassignedOp17 => "UNASSIGNED_OP_17"
  | .unassignedOp18 => "UNASSIGNED_OP_18"
  | .unassignedOp19 => "UNASSIGNED_OP_19"
  | .unassignedOp1A => "UNASSIGNED_OP_1A"
  | .unassignedOp1B => "UNASSIGNED_OP_1B"
  | .unassignedOp1C => "UNASSIGNED_OP_1C"
  | .unassignedOp1D => "UNASSIGNED_OP_1D"
  | .unassignedOp1E => "UNASSIGNED_OP_1E"
  | .unassignedOp1F => "UNASSIGNED_OP_1F"
  | .payloadSimpleAction _ _ _ _ _ => "PAYLOAD_SIMPLE_ACTION"
  | .payloadStateInfo _ _ _ _ _ _ => "PAYLOAD_STATE_INFO"
  | .payloadCustomHsb _ _ _ _ _ _ => "PAYLOAD_CUSTOM_HSB"
  | .payloadStartPattern _ _ _ _ _ => "PAYLOAD_START_PATTERN"
  | .payloadReservedKind5 _ _ => "PAYLOAD_RESERVED_KIND_5"
  | .payloadReservedKind6 _ _ => "PAYLOAD_RESERVED_KIND_6"
  | .payloadReservedKind7 _ _ => "PAYLOAD_RESERVED_KIND_7"
  | .payloadReservedKind8 _ _ => "PAYLOAD_RESERVED_KIND_8"
  | .payloadReservedKind16 _ _ => "PAYLOAD_RESERVED_KIND_16"
  | .payloadUnassignedKind _ _ _ => "PAYLOAD_UNASSIGNED_KIND"
  | .identifier _ _ _ => "IDENTIFIER"
  | .headerWord _ _ _ => "HEADER_WORD"
  | .statusOk => "STATUS_OK"
  | .statusAbsent => "STATUS_ABSENT"
  | .statusConstructionError => "STATUS_CONSTRUCTION_ERROR"
  | .statusMalformedHeader => "STATUS_MALFORMED_HEADER"
  | .statusIllegalOp => "STATUS_ILLEGAL_OP"

/-- The name of an outcome (R141). -/
def outcomeName : Response → String
  | .ok _ => "OK"
  | .absent => "ABSENT"
  | .fault .constructionError => "CONSTRUCTION_ERROR"
  | .fault .malformedHeader => "MALFORMED_HEADER"
  | .fault .illegalOp => "ILLEGAL_OP"

/-! ## Values -/

/-- One hexadecimal digit. -/
def hexDigit (n : Nat) : Char := if n < 10 then Char.ofNat (48 + n) else Char.ofNat (55 + n)

/-- A byte as two hexadecimal digits, with no mark before them: the form inside a payload. -/
def hexByte (b : Byte) : String := String.ofList [hexDigit (b.toNat / 16), hexDigit (b.toNat % 16)]

/-- A number with the mark `0x`, in the given count of digits. -/
def hexNumber (digits n : Nat) : String :=
  "0x" ++ String.ofList ((List.range digits).reverse.map fun i => hexDigit (n / 16 ^ i % 16))

/-- A payload as a bracketed list of bytes, offset 0 first (R84). -/
def writtenPayload (p : List Byte) : String := "[" ++ String.intercalate " " (p.map hexByte) ++ "]"

/-- `name=value`: operands and results are always named (R84). -/
def named (name value : String) : String := name ++ "=" ++ value

/-- A decimal value by its name. -/
def decimal {w : Nat} (name : String) (v : BitVec w) : String := named name (toString v.toNat)

/-- Parts with the given separator, in braces. -/
def braced (name : String) (parts : List String) : String :=
  name ++ String.singleton (Char.ofNat 123) ++ String.intercalate ", " parts
    ++ String.singleton (Char.ofNat 125)

/-- The five fields of a Frame. -/
def frameFields (id : Identifier) (payload : String) (prio : Priority) (src dst : Byte) : List String :=
  [named "id" (hexNumber 8 id.toNat), payload, decimal "prio" prio, named "src" (hexNumber 2 src.toNat),
    named "dst" (hexNumber 2 dst.toNat)]

/-- A Frame (R84). -/
def writtenFrame (f : Frame) : String :=
  braced "frame" (frameFields f.identifier (named "payload" (writtenPayload f.payload)) f.priority
    f.sourceAddress f.destinationAddress)

/-- The payload of an operand frame; where no Frame exists, its length, as the example of R110 has it. -/
def writtenOperandPayload (f : OperandFrame) : String :=
  if f.fLen.toNat ≤ Config.maxPayload then named "payload" (writtenPayload (operandPayload f))
  else "payload of " ++ decimal "f_len" f.fLen

/-- The fields of an operand frame. -/
def operandFields (f : OperandFrame) : List String :=
  frameFields f.fId (writtenOperandPayload f) f.fPrio f.fSrc f.fDst

/-- A Message: the variant's name and its own fields; the header fields are understood (R84). -/
def writtenMessage : Message → String
  | .simpleAction _ a s => braced "SimpleAction" [decimal "actionId" a, decimal "switchId" s]
  | .stateInfo _ s st ty =>
    braced "StateInfo" [decimal "switchId" s, decimal "switchState" st, decimal "switchType" ty]
  | .customHsb _ a s h sa b =>
    braced "CustomHSB" [decimal "actionId" a, decimal "switchId" s, decimal "hue" h,
      decimal "saturation" sa, decimal "brightness" b]
  | .startPattern _ s p => braced "StartPattern" [decimal "switchId" s, decimal "patternId" p]

/-! ## Transactions -/

/-- What is presented for a row that is a format: its datum. -/
def writtenDatum : Input → List String
  | .payload p => [named "payload" (writtenPayload p)]
  | .identifier id => [named "id" (hexNumber 8 id.toNat)]
  | .headerWord w => [writtenPayload (wordBytes w)]
  | .request _ => []
  | .status _ => []

/-- The operands of an instruction, by the names of R84. -/
def writtenOperands : Instr → List String
  | .buildId pn src dst prio =>
    [decimal "pn" pn, decimal "src" src, decimal "dst" dst, decimal "prio" prio]
  | .decomposeId id => [named "id" (hexNumber 8 id.toNat)]
  | .packHdr mfr ind => [decimal "mfr" mfr, decimal "ind" ind]
  | .unpackHdr n b0 b1 =>
    if n.toNat ≤ 2 then [writtenPayload ([b0, b1].take n.toNat)]
    else [decimal "f_len" n, writtenPayload [b0, b1]]
  | .makeFrame f => operandFields f
  | .isRecognized f | .kindOf f | .parseAny f | .decSimpleAction f | .decStateInfo f | .decCustomHsb f
  | .decStartPattern f => [braced "frame" (operandFields f)]
  | .encSimpleAction src dst a s =>
    [decimal "src" src, decimal "dst" dst, decimal "actionId" a, decimal "switchId" s]
  | .encStateInfo src s st ty =>
    [decimal "src" src, decimal "switchId" s, decimal "switchState" st, decimal "switchType" ty]
  | .encCustomHsb src dst a s h sa b =>
    [decimal "src" src, decimal "dst" dst, decimal "actionId" a, decimal "switchId" s, decimal "hue" h,
      decimal "saturation" sa, decimal "brightness" b]
  | .encStartPattern src dst s p =>
    [decimal "src" src, decimal "dst" dst, decimal "switchId" s, decimal "patternId" p]
  | .payloadSimpleAction x1 x2 x3 x4 x5 => writtenDatum (encode (.payloadSimpleAction x1 x2 x3 x4 x5))
  | .payloadStateInfo x1 x2 x3 x4 x5 x6 => writtenDatum (encode (.payloadStateInfo x1 x2 x3 x4 x5 x6))
  | .payloadCustomHsb x1 x2 x3 x4 x5 x6 => writtenDatum (encode (.payloadCustomHsb x1 x2 x3 x4 x5 x6))
  | .payloadStartPattern x1 x2 x3 x4 x5 => writtenDatum (encode (.payloadStartPattern x1 x2 x3 x4 x5))
  | .payloadReservedKind5 x1 x2 => writtenDatum (encode (.payloadReservedKind5 x1 x2))
  | .payloadReservedKind6 x1 x2 => writtenDatum (encode (.payloadReservedKind6 x1 x2))
  | .payloadReservedKind7 x1 x2 => writtenDatum (encode (.payloadReservedKind7 x1 x2))
  | .payloadReservedKind8 x1 x2 => writtenDatum (encode (.payloadReservedKind8 x1 x2))
  | .payloadReservedKind16 x1 x2 => writtenDatum (encode (.payloadReservedKind16 x1 x2))
  | .payloadUnassignedKind x1 x2 x3 => writtenDatum (encode (.payloadUnassignedKind x1 x2 x3))
  | .identifier x1 x2 x3 => writtenDatum (encode (.identifier x1 x2 x3))
  | .headerWord x1 x2 x3 => writtenDatum (encode (.headerWord x1 x2 x3))
  | .unassignedOp08 | .unassignedOp0D | .unassignedOp0E | .unassignedOp0F | .unassignedOp10 |
  .unassignedOp15 | .unassignedOp16 | .unassignedOp17 | .unassignedOp18 | .unassignedOp19 |
  .unassignedOp1A | .unassignedOp1B | .unassignedOp1C | .unassignedOp1D | .unassignedOp1E |
  .unassignedOp1F | .statusOk | .statusAbsent | .statusConstructionError | .statusMalformedHeader |
  .statusIllegalOp => []

/-- The results of a response, by the names of R84. -/
def writtenResults : Response → List String
  | .ok (.identifier id) => [named "id" (hexNumber 8 id.toNat)]
  | .ok (.parts prio pn src) => [decimal "prio" prio, decimal "pn" pn, named "src" (hexNumber 2 src.toNat)]
  | .ok (.headerBytes b0 b1) => [writtenPayload [b0, b1]]
  | .ok (.codes mfr ind) => [decimal "mfr" mfr, decimal "ind" ind]
  | .ok (.frame f) => [writtenFrame f]
  | .ok (.recognized true) => ["true"]
  | .ok (.recognized false) => ["false"]
  | .ok (.kind k) => [decimal "kind" k]
  | .ok (.message m) => [writtenMessage m]
  | .ok .notStated => []
  | .absent => []
  | .fault _ => []

/-- A transaction on one line: mnemonic, operands, arrow, outcome, results (R84). -/
def writtenTransaction (i : Instr) (r : Response) : String :=
  String.intercalate " " (mnemonic i :: writtenOperands i ++ "->" :: outcomeName r :: writtenResults r)

end Sys2Proof.Machine
end

