-- ==== Sys2Proof/Tests/Slice0.lean ====
section
/-!
SUPPORT. Tests. Expected results are the vectors of spec/95_test_vectors.md (its numbers in the docstrings) or
words written out from the encodings of spec/30_encoding.md; then, for every statement with hypotheses, a
concrete state and operands that meet them all.
-/

open Sys2Proof Sys2Proof.Machine

namespace Sys2Proof.Tests

/-! ## Helpers -/

/-- The state after reset with one input presented. -/
def present (x : Input) : State := { State.reset with pending := [x] }

/-- The response to one input presented after reset. -/
def answer (x : Input) : Option Response :=
  match step (present x) with
  | .next t => t.onPorts
  | .fault _ => none
  | .refused _ => none

/-- The operand frame with the given length and lanes, the rest as R85 has it. -/
def frame (len : Len) (lanes : List Byte) : OperandFrame := ⟨0, len, lanesOfPayload lanes, 6, 0, 255⟩

/-- The operand frame of a payload. -/
def frameOf (p : List Byte) : OperandFrame := frame (BitVec.ofNat 4 p.length) p

/-- The response to a request on an operand frame. -/
def ask (op : OpCode) (f : OperandFrame) : Option Response := answer (.request (Request.ofFrame op f))

/-- A state in which something has been answered and more is pending. -/
def busy : State where
  block := {}
  pending := [.status 1, .headerWord 0]
  responses := [.fault .illegalOp, .ok (.kind 3)]
  onPorts := some (.ok (.kind 3))
  freeIndex := 7

/-! ## Words of the table, one for each constructor (R74, R82) -/

theorem test_decode_buildId : decodeTableWord 8 0b00000 = some (.buildId 0 0 0 0) := by decide
theorem test_decode_decomposeId : decodeTableWord 8 0b00001 = some (.decomposeId 0) := by decide
theorem test_decode_packHdr : decodeTableWord 8 0b00010 = some (.packHdr 0 0) := by decide
theorem test_decode_unpackHdr : decodeTableWord 8 0b00011 = some (.unpackHdr 0 0 0) := by decide
theorem test_decode_makeFrame : decodeTableWord 8 0b00100 = some (.makeFrame OperandFrame.zero) := by decide
theorem test_decode_isRecognized :
    decodeTableWord 8 0b00101 = some (.isRecognized OperandFrame.zero) := by decide
theorem test_decode_kindOf : decodeTableWord 8 0b00110 = some (.kindOf OperandFrame.zero) := by decide
theorem test_decode_parseAny : decodeTableWord 8 0b00111 = some (.parseAny OperandFrame.zero) := by decide
theorem test_decode_encSimpleAction : decodeTableWord 8 0b01001 = some (.encSimpleAction 0 0 0 0) := by decide
theorem test_decode_encStateInfo : decodeTableWord 8 0b01010 = some (.encStateInfo 0 0 0 0) := by decide
theorem test_decode_encCustomHsb : decodeTableWord 8 0b01011 = some (.encCustomHsb 0 0 0 0 0 0 0) := by decide
theorem test_decode_encStartPattern : decodeTableWord 8 0b01100 = some (.encStartPattern 0 0 0 0) := by decide
theorem test_decode_decSimpleAction :
    decodeTableWord 8 0b10001 = some (.decSimpleAction OperandFrame.zero) := by decide
theorem test_decode_decStateInfo :
    decodeTableWord 8 0b10010 = some (.decStateInfo OperandFrame.zero) := by decide
theorem test_decode_decCustomHsb :
    decodeTableWord 8 0b10011 = some (.decCustomHsb OperandFrame.zero) := by decide
theorem test_decode_decStartPattern :
    decodeTableWord 8 0b10100 = some (.decStartPattern OperandFrame.zero) := by decide
theorem test_decode_unassignedOp08 : decodeTableWord 8 0b01000 = some .unassignedOp08 := by decide
theorem test_decode_unassignedOp0D : decodeTableWord 8 0b01101 = some .unassignedOp0D := by decide
theorem test_decode_unassignedOp0E : decodeTableWord 8 0b01110 = some .unassignedOp0E := by decide
theorem test_decode_unassignedOp0F : decodeTableWord 8 0b01111 = some .unassignedOp0F := by decide
theorem test_decode_unassignedOp10 : decodeTableWord 8 0b10000 = some .unassignedOp10 := by decide
theorem test_decode_unassignedOp15 : decodeTableWord 8 0b10101 = some .unassignedOp15 := by decide
theorem test_decode_unassignedOp16 : decodeTableWord 8 0b10110 = some .unassignedOp16 := by decide
theorem test_decode_unassignedOp17 : decodeTableWord 8 0b10111 = some .unassignedOp17 := by decide
theorem test_decode_unassignedOp18 : decodeTableWord 8 0b11000 = some .unassignedOp18 := by decide
theorem test_decode_unassignedOp19 : decodeTableWord 8 0b11001 = some .unassignedOp19 := by decide
theorem test_decode_unassignedOp1A : decodeTableWord 8 0b11010 = some .unassignedOp1A := by decide
theorem test_decode_unassignedOp1B : decodeTableWord 8 0b11011 = some .unassignedOp1B := by decide
theorem test_decode_unassignedOp1C : decodeTableWord 8 0b11100 = some .unassignedOp1C := by decide
theorem test_decode_unassignedOp1D : decodeTableWord 8 0b11101 = some .unassignedOp1D := by decide
theorem test_decode_unassignedOp1E : decodeTableWord 8 0b11110 = some .unassignedOp1E := by decide
theorem test_decode_unassignedOp1F : decodeTableWord 8 0b11111 = some .unassignedOp1F := by decide

/-! ## Payload words: byte 0 is 1110 1000 (manufacturer bits 7:0), byte 1 is 100 rr 101 (industry, reserved,
manufacturer bits 10:8), byte 2 the kind (R62 to R67, R76, R79, R80) -/

theorem test_decode_payloadSimpleAction :
    decodeTableWord 64 0xBBAA0001020185E8 = some (.payloadSimpleAction 0 2 1 0 [0xAA, 0xBB]) := by decide
theorem test_decode_payloadStateInfo :
    decodeTableWord 64 0xCC7F000105028DE8 = some (.payloadStateInfo 1 5 1 0 0x7F [0xCC]) := by decide
theorem test_decode_payloadCustomHsb :
    decodeTableWord 64 0xC8FF8001080395E8 = some (.payloadCustomHsb 2 8 1 0x80 0xFF 0xC8) := by decide
theorem test_decode_payloadStartPattern :
    decodeTableWord 64 0x0201000703049DE8 = some (.payloadStartPattern 3 3 7 0 [1, 2]) := by decide
theorem test_decode_payloadReservedKind5 :
    decodeTableWord 24 0x0585E8 = some (.payloadReservedKind5 0 [0, 0, 0, 0, 0]) := by decide
theorem test_decode_payloadReservedKind6 :
    decodeTableWord 24 0x0685E8 = some (.payloadReservedKind6 0 [0, 0, 0, 0, 0]) := by decide
theorem test_decode_payloadReservedKind7 :
    decodeTableWord 24 0x0785E8 = some (.payloadReservedKind7 0 [0, 0, 0, 0, 0]) := by decide
theorem test_decode_payloadReservedKind8 :
    decodeTableWord 24 0x0885E8 = some (.payloadReservedKind8 0 [0, 0, 0, 0, 0]) := by decide
theorem test_decode_payloadReservedKind16 :
    decodeTableWord 24 0x1085E8 = some (.payloadReservedKind16 0 [0, 0, 0, 0, 0]) := by decide
theorem test_decode_payloadUnassignedKind :
    decodeTableWord 64 0x0504030201FF85E8 = some (.payloadUnassignedKind 0 0xFF [1, 2, 3, 4, 5])
    ∧ decodeTableWord 24 0x0085E8 = some (.payloadUnassignedKind 0 0 [0, 0, 0, 0, 0]) := by decide
/-- Priority 110, region 00 1110 1111 0000 1110, source 0001 0000 (R60). -/
theorem test_decode_identifier :
    decodeTableWord 32 0b11000111011110000111000010000 = some (.identifier 6 0xEF0E 0x10) := by decide
/-- Industry 100, reserved 01, manufacturer 101 1110 1000 (R62). -/
theorem test_decode_headerWord :
    decodeTableWord 16 0b1000110111101000 = some (.headerWord 1512 1 4) := by decide
theorem test_decode_statusOk : decodeTableWord 3 0b000 = some .statusOk := by decide
theorem test_decode_statusAbsent : decodeTableWord 3 0b001 = some .statusAbsent := by decide
theorem test_decode_statusConstructionError :
    decodeTableWord 3 0b010 = some .statusConstructionError := by decide
theorem test_decode_statusMalformedHeader : decodeTableWord 3 0b011 = some .statusMalformedHeader := by decide
theorem test_decode_statusIllegalOp : decodeTableWord 3 0b100 = some .statusIllegalOp := by decide

/-- What has no row is refused: status 5 to 7, codes of more than five bits, numbers too wide. -/
theorem test_decode_refuses : decodeTableWord 3 5 = none ∧ decodeTableWord 3 7 = none ∧
    decodeTableWord 8 32 = none ∧ decodeTableWord 32 0x20000000 = none ∧ decodeTableWord 16 0x10000 = none ∧
    decodeTableWord 24 0 = none := by decide

/-- Each way a payload is not a row, by name. -/
theorem test_decode_payload_errors :
    decode (.payload [0xE8, 0x85, 1, 2, 3, 4, 5, 6, 7]) = .error .payloadTooLong ∧
    decode (.payload [0xE8, 0x85]) = .error .payloadTooShort ∧
    decode (.payload [0x00, 0x00, 1, 2, 1, 0]) = .error .notRecognized ∧
    decode (.payload [0xE8, 0x85, 3, 8, 1, 0]) = .error .tooShortForKind := by
  refine ⟨rfl, rfl, rfl, rfl⟩

/-! ## Ill-formed terms are refused, the longest well-formed ones are not (R27, R40) -/

theorem test_wf_payloadSimpleAction : Instr.WellFormed (.payloadSimpleAction 0 2 1 0 [1, 2, 3]) = false ∧
    Instr.WellFormed (.payloadSimpleAction 0 2 1 0 [1, 2]) = true := by decide
theorem test_wf_payloadStateInfo : Instr.WellFormed (.payloadStateInfo 0 5 1 0 0 [1, 2]) = false ∧
    Instr.WellFormed (.payloadStateInfo 0 5 1 0 0 [1]) = true := by decide
theorem test_wf_payloadStartPattern : Instr.WellFormed (.payloadStartPattern 0 3 7 0 [1, 2, 3]) = false ∧
    Instr.WellFormed (.payloadStartPattern 0 3 7 0 [1, 2]) = true := by decide
theorem test_wf_payloadReservedKind5 : Instr.WellFormed (.payloadReservedKind5 0 [1, 2, 3, 4, 5, 6]) = false ∧
    Instr.WellFormed (.payloadReservedKind5 0 [1, 2, 3, 4, 5]) = true := by decide
theorem test_wf_payloadReservedKind6 : Instr.WellFormed (.payloadReservedKind6 0 [1, 2, 3, 4, 5, 6]) = false ∧
    Instr.WellFormed (.payloadReservedKind6 0 [1, 2, 3, 4, 5]) = true := by decide
theorem test_wf_payloadReservedKind7 : Instr.WellFormed (.payloadReservedKind7 0 [1, 2, 3, 4, 5, 6]) = false ∧
    Instr.WellFormed (.payloadReservedKind7 0 [1, 2, 3, 4, 5]) = true := by decide
theorem test_wf_payloadReservedKind8 : Instr.WellFormed (.payloadReservedKind8 0 [1, 2, 3, 4, 5, 6]) = false ∧
    Instr.WellFormed (.payloadReservedKind8 0 [1, 2, 3, 4, 5]) = true := by decide
theorem test_wf_payloadReservedKind16 : Instr.WellFormed (.payloadReservedKind16 0 [1, 2, 3, 4, 5, 6]) = false ∧
    Instr.WellFormed (.payloadReservedKind16 0 [1, 2, 3, 4, 5]) = true := by decide
theorem test_wf_payloadUnassignedKind :
    Instr.WellFormed (.payloadUnassignedKind 0 9 [1, 2, 3, 4, 5, 6]) = false ∧
    Instr.WellFormed (.payloadUnassignedKind 0 4 []) = false ∧
    Instr.WellFormed (.payloadUnassignedKind 0 16 []) = false ∧
    Instr.WellFormed (.payloadUnassignedKind 0 9 [1, 2, 3, 4, 5]) = true := by decide

/-! ## Vectors: one step each, on a request as its ports carry it -/

/-- I1, I2, I4, I7, I8. -/
theorem test_step_buildId :
    answer (.request { Request.ofOp 0x00 with aPn := 61184, aSrc := 0x10, aDst := 0x0E, aPrio := 6 }) =
      some (.ok (.identifier 0x18EF0E10)) ∧
    answer (.request { Request.ofOp 0x00 with aPn := 61184, aSrc := 0x10, aDst := 255, aPrio := 6 }) =
      some (.ok (.identifier 0x18EF0010)) ∧
    answer (.request { Request.ofOp 0x00 with aPn := 61184, aSrc := 0x110, aDst := 0x10E, aPrio := 14 }) =
      some (.ok (.identifier 0x18EF0E10)) ∧
    answer (.request { Request.ofOp 0x00 with aPn := 0x12345, aSrc := 1, aDst := 2, aPrio := 3 }) =
      some (.ok (.identifier 0x0D230201)) ∧
    answer (.request { Request.ofOp 0x00 with aPn := 0x52345, aSrc := 1, aDst := 0x1FF, aPrio := 3 }) =
      some (.ok (.identifier 0x0D234501)) := by decide

/-- I1 and the single bits 26, 25 and 8. -/
theorem test_step_decomposeId :
    ask 0x01 { OperandFrame.zero with fId := 0x18EF0E10 } = some (.ok (.parts 6 61198 0x10)) ∧
    ask 0x01 { OperandFrame.zero with fId := 0x04000000 } = some (.ok (.parts 1 0 0)) ∧
    ask 0x01 { OperandFrame.zero with fId := 0x02000000 } = some (.ok (.parts 0 0x20000 0)) ∧
    ask 0x01 { OperandFrame.zero with fId := 0x00000100 } = some (.ok (.parts 0 1 0)) := by decide

/-- H1, H2, H5, H6, H7. -/
theorem test_step_packHdr :
    answer (.request { Request.ofOp 0x02 with aMfr := 1512, aInd := 4 }) =
      some (.ok (.headerBytes 0xE8 0x85)) ∧
    answer (.request { Request.ofOp 0x02 with aMfr := 2047, aInd := 7 }) =
      some (.ok (.headerBytes 0xFF 0xE7)) ∧
    answer (.request { Request.ofOp 0x02 with aMfr := 3560, aInd := 12 }) =
      some (.ok (.headerBytes 0xE8 0x85)) ∧
    answer (.request { Request.ofOp 0x02 with aMfr := 1, aInd := 1 }) =
      some (.ok (.headerBytes 0x01 0x20)) ∧
    answer (.request { Request.ofOp 0x02 with aMfr := 0x400, aInd := 2 }) =
      some (.ok (.headerBytes 0x00 0x44)) := by decide

/-- H8, H9, H16, H18, H19, X8. -/
theorem test_step_unpackHdr :
    ask 0x03 (frameOf [0xE8, 0x85]) = some (.ok (.codes 1512 4)) ∧
    ask 0x03 (frameOf [0xE8, 0x9D]) = some (.ok (.codes 1512 4)) ∧
    ask 0x03 (frameOf [0x85, 0xE8]) = some (.ok (.codes 133 7)) ∧
    ask 0x03 (frameOf [0xE8]) = some (.fault .malformedHeader) ∧
    ask 0x03 (frameOf []) = some (.fault .malformedHeader) ∧
    ask 0x03 (frame 9 [0xE8, 0x85]) = some (.ok (.codes 1512 4)) := by decide

/-- V1, V2, V3, V4, V5; in V1 the lanes beyond the length hold bytes that do not reach the Frame. -/
theorem test_step_makeFrame :
    ask 0x04 ⟨0x18EF0E10, 6, ⟨0xE8, 0x85, 1, 2, 1, 0, 9, 9⟩, 6, 0x10, 0x0E⟩ =
      some (.ok (.frame ⟨0x18EF0E10, [0xE8, 0x85, 1, 2, 1, 0], 6, 0x10, 0x0E⟩)) ∧
    ask 0x04 ⟨0, 0, Lanes.zero, 0, 0, 0⟩ = some (.ok (.frame ⟨0, [], 0, 0, 0⟩)) ∧
    ask 0x04 ⟨0x1FFFFFFF, 8, ⟨1, 2, 3, 4, 5, 6, 7, 8⟩, 7, 255, 255⟩ =
      some (.ok (.frame ⟨0x1FFFFFFF, [1, 2, 3, 4, 5, 6, 7, 8], 7, 255, 255⟩)) ∧
    ask 0x04 (frame 9 []) = some (.fault .constructionError) ∧
    ask 0x04 (frame 15 []) = some (.fault .constructionError) := by decide

/-- V8, V9, V10, V13, V14, V16, V17, V18. -/
theorem test_step_isRecognized :
    ask 0x05 (frameOf [0xE8, 0x85]) = some (.ok (.recognized false)) ∧
    ask 0x05 (frameOf [0xE8, 0x85, 1]) = some (.ok (.recognized true)) ∧
    ask 0x05 (frameOf [0, 0, 1, 2, 1, 0]) = some (.ok (.recognized false)) ∧
    ask 0x05 (frameOf [0xE8, 0xA5, 1, 2, 1, 0]) = some (.ok (.recognized false)) ∧
    ask 0x05 (frameOf [0x85, 0xE8, 1, 2, 1, 0]) = some (.ok (.recognized false)) ∧
    ask 0x05 (frameOf [0xE8, 0x8D, 1, 2, 1, 0]) = some (.ok (.recognized true)) ∧
    ask 0x05 (frameOf [0xE8, 0x85, 0xFF, 1, 2, 3, 4, 5]) = some (.ok (.recognized true)) ∧
    ask 0x05 (frame 9 []) = some (.fault .constructionError) := by decide

/-- V19, V20, V22, V23, V24. -/
theorem test_step_kindOf :
    ask 0x06 (frameOf [0xE8, 0x85]) = some .absent ∧
    ask 0x06 (frameOf [0xE8, 0x85, 1]) = some (.ok (.kind 1)) ∧
    ask 0x06 (frameOf [0xE8, 0x85, 0, 1, 2, 3]) = some (.ok (.kind 0)) ∧
    ask 0x06 (frameOf [0xE8, 0x85, 16, 1, 2, 3, 4, 5]) = some (.ok (.kind 16)) ∧
    ask 0x06 (frameOf [0xE8, 0x85, 0xFF, 1, 2, 3, 4, 5]) = some (.ok (.kind 255)) := by decide

/-- E1, E4. -/
theorem test_step_encSimpleAction :
    answer (.request { Request.ofOp 0x09 with aSrc := 0x10, aDst := 0x0E, aF0 := 2, aF1 := 1 }) =
      some (.ok (.frame ⟨0x18EF0E10, [0xE8, 0x85, 1, 2, 1, 0], 6, 0x10, 0x0E⟩)) ∧
    answer (.request { Request.ofOp 0x09 with aSrc := 300, aDst := 511, aF0 := 258, aF1 := 0x1FF }) =
      some (.ok (.frame ⟨0x18EF002C, [0xE8, 0x85, 1, 2, 0xFF, 0], 6, 0x2C, 0xFF⟩)) := by decide

/-- E5, E7. -/
theorem test_step_encStateInfo :
    answer (.request { Request.ofOp 0x0A with aSrc := 0x10, aDst := 0x0E, aF0 := 5, aF1 := 1, aF2 := 0 }) =
      some (.ok (.frame ⟨0x18EF0010, [0xE8, 0x85, 2, 5, 1, 0, 0], 6, 0x10, 0xFF⟩)) ∧
    answer (.request { Request.ofOp 0x0A with aSrc := 0x42, aDst := 0x33, aF0 := 9, aF1 := 7, aF2 := 200 }) =
      some (.ok (.frame ⟨0x18EF0042, [0xE8, 0x85, 2, 9, 7, 0xC8, 0], 6, 0x42, 0xFF⟩)) := by decide

/-- E8 (step A1). -/
theorem test_step_encCustomHsb :
    answer (.request { Request.ofOp 0x0B with
      aSrc := 0x10, aDst := 0x0E, aF0 := 8, aF1 := 1, aF2 := 128, aF3 := 255, aF4 := 200 }) =
      some (.ok (.frame ⟨0x18EF0E10, [0xE8, 0x85, 3, 8, 1, 0x80, 0xFF, 0xC8], 6, 0x10, 0x0E⟩)) := by decide

/-- E11, E13. -/
theorem test_step_encStartPattern :
    answer (.request { Request.ofOp 0x0C with aSrc := 0x22, aDst := 255, aF0 := 3, aF1 := 7 }) =
      some (.ok (.frame ⟨0x18EF0022, [0xE8, 0x85, 4, 3, 7, 0], 6, 0x22, 0xFF⟩)) ∧
    answer (.request { Request.ofOp 0x0C with aSrc := 0x10, aDst := 0x100, aF0 := 1, aF1 := 2 }) =
      some (.ok (.frame ⟨0x18EF0010, [0xE8, 0x85, 4, 1, 2, 0], 6, 0x10, 0x00⟩)) := by decide

/-- P1, P2, P4, P5, P6, P8 on `DEC_SIMPLE_ACTION`. -/
theorem test_step_decSimpleAction :
    ask 0x11 (frameOf [0xE8, 0x85, 1, 2, 1, 0]) = some (.ok (.message (.simpleAction ⟨1512, 4, 1⟩ 2 1))) ∧
    ask 0x11 (frameOf [0xE8, 0x85, 1, 2, 1]) = some .absent ∧
    ask 0x11 (frameOf [0xE8, 0x85, 1, 2, 1, 0x7F]) = some (.ok (.message (.simpleAction ⟨1512, 4, 1⟩ 2 1))) ∧
    ask 0x11 (frameOf [0xE8, 0x85, 1, 2, 1, 0, 0xAA, 0xBB]) =
      some (.ok (.message (.simpleAction ⟨1512, 4, 1⟩ 2 1))) ∧
    ask 0x11 (frameOf [0xE8, 0x9D, 1, 0xEE, 1, 0]) =
      some (.ok (.message (.simpleAction ⟨1512, 4, 1⟩ 0xEE 1))) ∧
    ask 0x11 (frameOf [0xE8, 0x85, 2, 5, 1, 0, 0]) = some .absent := by decide

/-- P8, P9, P10, P11 on `DEC_STATE_INFO`. -/
theorem test_step_decStateInfo :
    ask 0x12 (frameOf [0xE8, 0x85, 2, 5, 1, 0, 0]) = some (.ok (.message (.stateInfo ⟨1512, 4, 2⟩ 5 1 0))) ∧
    ask 0x12 (frameOf [0xE8, 0x85, 2, 5, 1, 0]) = some .absent ∧
    ask 0x12 (frameOf [0xE8, 0x85, 2, 5, 7, 9, 0xFF]) =
      some (.ok (.message (.stateInfo ⟨1512, 4, 2⟩ 5 7 9))) ∧
    ask 0x12 (frameOf [0xE8, 0x85, 3, 8, 1, 0x80, 0xFF, 0xC8]) = some .absent := by decide

/-- P11, P12, P14 on `DEC_CUSTOM_HSB`. -/
theorem test_step_decCustomHsb :
    ask 0x13 (frameOf [0xE8, 0x85, 3, 8, 1, 0x80, 0xFF, 0xC8]) =
      some (.ok (.message (.customHsb ⟨1512, 4, 3⟩ 8 1 128 255 200))) ∧
    ask 0x13 (frameOf [0xE8, 0x85, 3, 8, 1, 0x80, 0xFF]) = some .absent ∧
    ask 0x13 (frameOf [0xE8, 0x85, 4, 3, 7, 0]) = some .absent := by decide

/-- P14, P15, P1 on `DEC_START_PATTERN`. -/
theorem test_step_decStartPattern :
    ask 0x14 (frameOf [0xE8, 0x85, 4, 3, 7, 0]) = some (.ok (.message (.startPattern ⟨1512, 4, 4⟩ 3 7))) ∧
    ask 0x14 (frameOf [0xE8, 0x85, 4, 3, 7]) = some .absent ∧
    ask 0x14 (frameOf [0xE8, 0x85, 1, 2, 1, 0]) = some .absent := by decide

/-- P1, P8, P11, P13, P14, P16, P23, X7 on `PARSE_ANY`. -/
theorem test_step_parseAny :
    ask 0x07 (frameOf [0xE8, 0x85, 1, 2, 1, 0]) = some (.ok (.message (.simpleAction ⟨1512, 4, 1⟩ 2 1))) ∧
    ask 0x07 (frameOf [0xE8, 0x85, 2, 5, 1, 0, 0]) = some (.ok (.message (.stateInfo ⟨1512, 4, 2⟩ 5 1 0))) ∧
    ask 0x07 (frameOf [0xE8, 0x85, 3, 8, 1, 0x80, 0xFF, 0xC8]) =
      some (.ok (.message (.customHsb ⟨1512, 4, 3⟩ 8 1 128 255 200))) ∧
    ask 0x07 (frameOf [0xE8, 0x85, 3, 8, 1, 0]) = some .absent ∧
    ask 0x07 (frameOf [0xE8, 0x85, 4, 3, 7, 0]) = some (.ok (.message (.startPattern ⟨1512, 4, 4⟩ 3 7))) ∧
    ask 0x07 (frameOf [0xE8, 0x85, 5, 0, 0, 0, 0, 0]) = some .absent ∧
    ask 0x07 (frameOf [0xE8, 0x85, 0xFF, 1, 2, 3, 4, 5]) = some .absent ∧
    ask 0x07 (frame 9 []) = some (.fault .constructionError) := by decide

/-- X1 to X6: every unassigned code, and X6 with a length of 9. -/
theorem test_step_unassigned :
    (∀ op ∈ [0x08#5, 0x0D#5, 0x0E#5, 0x0F#5, 0x10#5, 0x15#5, 0x16#5, 0x17#5, 0x18#5, 0x19#5, 0x1A#5, 0x1B#5,
      0x1C#5, 0x1D#5, 0x1E#5, 0x1F#5], answer (.request (Request.ofOp op)) = some (.fault .illegalOp)) ∧
    ask 0x1F (frame 9 []) = some (.fault .illegalOp) := by decide

/-- The payloads of P5, P10, P6 with kind 3 and P14, given bare to the demultiplexer. -/
theorem test_step_payload_formats :
    answer (.payload [0xE8, 0x85, 1, 2, 1, 0, 0xAA, 0xBB]) =
      some (.ok (.message (.simpleAction ⟨1512, 4, 1⟩ 2 1))) ∧
    answer (.payload [0xE8, 0x85, 2, 5, 7, 9, 0xFF]) = some (.ok (.message (.stateInfo ⟨1512, 4, 2⟩ 5 7 9))) ∧
    answer (.payload [0xE8, 0x9D, 3, 8, 1, 0x80, 0xFF, 0xC8]) =
      some (.ok (.message (.customHsb ⟨1512, 4, 3⟩ 8 1 128 255 200))) ∧
    answer (.payload [0xE8, 0x85, 4, 3, 7, 0]) =
      some (.ok (.message (.startPattern ⟨1512, 4, 4⟩ 3 7))) := by decide

/-- P16 to P23: a kind without a decoder is absent. -/
theorem test_step_payload_without_decoder :
    ∀ k ∈ [5#8, 6#8, 7#8, 8#8, 16#8, 0#8, 9#8, 255#8],
      answer (.payload [0xE8, 0x85, k, 1, 2, 3]) = some .absent := by decide

/-- What is no row: too short, not recognized, too short for its kind, too long for a Frame. -/
theorem test_step_payload_undecoded :
    answer (.payload [0xE8, 0x85]) = some .absent ∧ answer (.payload [0, 0, 1, 2, 1, 0]) = some .absent ∧
    answer (.payload [0xE8, 0x85, 3, 8, 1, 0]) = some .absent ∧
    answer (.payload [0xE8, 0x85, 1, 2, 3, 4, 5, 6, 7]) = some (.fault .constructionError) := by decide

/-- `DECOMPOSE_ID` of I8's identifier, as the format row. -/
theorem test_step_identifier : answer (.identifier 0x0D234501) = some (.ok (.parts 3 0x12345 1)) := by decide

/-- H9, H14, H15 as the format row. -/
theorem test_step_headerWord : answer (.headerWord 0x9DE8) = some (.ok (.codes 1512 4)) ∧
    answer (.headerWord 0x85E9) = some (.ok (.codes 1513 4)) ∧
    answer (.headerWord 0xA5E8) = some (.ok (.codes 1512 5)) := by decide

/-- The status rows, and a code that is never produced (R141). -/
theorem test_step_status :
    answer (.status 0) = some (.ok .notStated) ∧ answer (.status 1) = some .absent ∧
    answer (.status 2) = some (.fault .constructionError) ∧
    answer (.status 3) = some (.fault .malformedHeader) ∧ answer (.status 4) = some (.fault .illegalOp) ∧
    step (present (.status 5)) = .fault .statusNeverProduced := ⟨rfl, rfl, rfl, rfl, rfl, rfl⟩

/-- The word of a row is run as the first instruction after reset. -/
theorem test_withFetchWord :
    step (State.reset.withFetchWord 8 0x1F) = .next (respond (.fault .illegalOp) State.reset) ∧
    step (State.reset.withFetchWord 24 0x0585E8) = .next (respond .absent State.reset) := ⟨rfl, rfl⟩

/-- The ports of step C5: `r_g2` to `r_g4` are driven 0, `status` is 0. -/
theorem test_ports_message :
    (responsePorts (respond (.ok (.message (.startPattern ⟨1512, 4, 4⟩ 3 7))) busy)).status = 0 ∧
    (responsePorts (respond (.ok (.message (.startPattern ⟨1512, 4, 4⟩ 3 7))) busy)).rG1 = 7 ∧
    (responsePorts (respond (.ok (.message (.startPattern ⟨1512, 4, 4⟩ 3 7))) busy)).rG2 = 0 :=
  ⟨rfl, rfl, rfl⟩

/-- Steps A2 and A3: `r_bool` is 1 for true, 0 for false (V10), and `r_kind` is 3. -/
theorem test_ports_recognized_and_kind :
    (responsePorts (respond (.ok (.recognized true)) busy)).rBool = 1 ∧
    (responsePorts (respond (.ok (.recognized false)) busy)).rBool = 0 ∧
    (responsePorts (respond (.ok (.kind 3)) busy)).rKind = 3 := ⟨rfl, rfl, rfl⟩

/-- H1, H18 and X5 as R84 writes a transaction. -/
theorem test_written :
    writtenTransaction (.packHdr 1512 4) (.ok (.headerBytes 0xE8 0x85)) =
      "PACK_HDR mfr=1512 ind=4 -> OK [E8 85]" ∧
    writtenTransaction (.unpackHdr 1 0xE8 0) (.fault .malformedHeader) =
      "UNPACK_HDR [E8] -> MALFORMED_HEADER" ∧
    writtenTransaction .unassignedOp1F (.fault .illegalOp) = "UNASSIGNED_OP_1F -> ILLEGAL_OP" := by decide

/-! ## Witnesses: for every statement with hypotheses, values that meet them all -/

/-- `StepRunsDecodedInstruction`. -/
theorem test_witness_StepRunsDecodedInstruction :
    (present (.headerWord 0x85E8)).pending = .headerWord 0x85E8 :: [] ∧
    decode (.headerWord 0x85E8) = .ok (.headerWord 1512 0 4) := ⟨rfl, rfl⟩

/-- `StepRunsEncodedInstruction` and `DecodeOfEncode`, at the longest payload. -/
theorem test_witness_StepRunsEncodedInstruction :
    Instr.WellFormed (.payloadStateInfo 3 5 1 0 0 [9]) = true ∧
    (present (encode (.payloadStateInfo 3 5 1 0 0 [9]))).pending =
      encode (.payloadStateInfo 3 5 1 0 0 [9]) :: [] := ⟨rfl, rfl⟩

/-- `NoRequestNoAnswer`. -/
theorem test_witness_NoRequestNoAnswer : State.reset.pending = [] := rfl

/-- `DecodeOfEncode`: an unassigned kind at its largest. -/
theorem test_witness_DecodeOfEncode : Instr.WellFormed (.payloadUnassignedKind 2 255 [1, 2, 3, 4, 5]) = true := rfl

/-- `EncodeOfDecode`, second clause. -/
theorem test_witness_EncodeOfDecode :
    decode (.payload [0xE8, 0x9D, 4, 3, 7, 0, 1, 2]) = .ok (.payloadStartPattern 3 3 7 0 [1, 2]) ∧
    (∀ r, Input.payload [0xE8, 0x9D, 4, 3, 7, 0, 1, 2] ≠ .request r) := ⟨rfl, by simp⟩

/-- `UnreadPortsHaveNoEffect`: two requests for `ENC_STATE_INFO` that differ in the destination, which is not
read, and two for `UNPACK_HDR` that differ in lane 2. -/
theorem test_witness_UnreadPortsHaveNoEffect :
    (let r := { Request.ofOp 0x0A with aSrc := 0x10, aF0 := 5, aF1 := 1, aF2 := 0 }
     let r' := { r with aDst := 0x0E }
     r ≠ r' ∧ r.op = r'.op ∧ r.op = 0x0A ∧
      (r.aSrc = r'.aSrc ∧ r.aF0 = r'.aF0 ∧ r.aF1 = r'.aF1 ∧ r.aF2 = r'.aF2)) ∧
    (let r := Request.ofFrame 0x03 (frameOf [0xE8, 0x85])
     let r' := Request.ofFrame 0x03 (frame 2 [0xE8, 0x85, 7])
     r ≠ r' ∧ r.op = r'.op ∧ r.op = 0x03 ∧
      (r.f.fLen = r'.f.fLen ∧ r.f.fData.d0 = r'.f.fData.d0 ∧ r.f.fData.d1 = r'.f.fData.d1)) := by decide

/-- `StepKeepsSafe`: a state with responses and a response on the ports. -/
theorem test_witness_StepKeepsSafe : busy.Safe ∧ ∃ t, step busy = .next t := by
  refine ⟨⟨by decide, ?_⟩, _, rfl⟩
  intro r h
  simpa [busy] using h

/-- `RunAnswersEachInputInOrder`: a payload, a request and a status code, and status 4, the last that is
produced. -/
theorem test_witness_RunAnswersEachInputInOrder :
    ∀ x ∈ [Input.payload [0xE8], .request (Request.ofOp 0x1F), .status 0, .status 4], Answerable x := by
  intro x h
  simp only [List.mem_cons, List.not_mem_nil, or_false] at h
  rcases h with rfl | rfl | rfl | rfl <;> exact fun e => nomatch e

/-- The first clause of every statement of an operation's result: a request with that operation select. -/
theorem test_witness_operation_select :
    ∀ op ∈ [0x00#5, 0x01#5, 0x02#5, 0x03#5, 0x04#5, 0x05#5, 0x06#5, 0x07#5, 0x09#5, 0x0A#5, 0x0B#5, 0x0C#5,
      0x11#5, 0x12#5, 0x13#5, 0x14#5], (Request.ofOp op).op = op := by decide

/-- `IdentifierRoundTrip`, second and third clause. -/
theorem test_witness_IdentifierRoundTrip :
    Answers (.buildId 61184 0x10 0x0E 6) State.reset (.ok (.identifier 0x18EF0E10)) ∧
    Answers (.decomposeId 0x18EF0E10) State.reset (.ok (.parts 6 61198 0x10)) := ⟨rfl, rfl⟩

/-- `BroadcastAliasesLowByte`: destination 511 masks to 255, and 0x145 masks to the low byte of 0x12345. -/
theorem test_witness_BroadcastAliasesLowByte :
    (511#32).toNat % 2 ^ 8 = 255 ∧ (255#32).toNat % 2 ^ 8 = 255 ∧
    (0x145#32).toNat % 2 ^ 8 = (0x12345#32).toNat % 2 ^ 8 := by decide

/-- `EncoderIdentifierRange`: the smallest and the largest, I10 and I11; a frame of an encoder, E11 and E5. -/
theorem test_witness_EncoderIdentifierRange :
    Answers (.buildId 61184 0 255 6) State.reset (.ok (.identifier 0x18EF0000)) ∧
    Answers (.buildId 61184 0xFF 0xFE 6) State.reset (.ok (.identifier 0x18EFFEFF)) ∧
    Answers (.encStartPattern 0x22 255 3 7) State.reset
      (.ok (.frame ⟨0x18EF0022, [0xE8, 0x85, 4, 3, 7, 0], 6, 0x22, 0xFF⟩)) ∧
    Answers (.encStateInfo 0x10 5 1 0) State.reset
      (.ok (.frame ⟨0x18EF0010, [0xE8, 0x85, 2, 5, 1, 0, 0], 6, 0x10, 0xFF⟩)) := ⟨rfl, rfl, rfl, rfl⟩

/-- `RawDestinationTestDiffersOnlyAbove255`. -/
theorem test_witness_RawDestinationTestDiffersOnlyAbove255 :
    buildIdentifierWith true 61184 0x10 511 6 ≠ buildIdentifierWith false 61184 0x10 511 6 := by decide

/-- `UnpackHdrResult`: the last byte count below 2, and 2, 15. -/
theorem test_witness_UnpackHdrResult :
    (1#4).toNat < 2 ∧ 2 ≤ (2#4).toNat ∧ 2 ≤ (15#4).toNat := by decide

/-- `HeaderRoundTrip`: each of the answers it starts from; the second with a reserved bit set. -/
theorem test_witness_HeaderRoundTrip :
    Answers (.packHdr 3560 12) State.reset (.ok (.headerBytes 0xE8 0x85)) ∧
    Answers (.unpackHdr 2 0xE8 0x8D) State.reset (.ok (.codes 1512 4)) ∧
    Answers (.unpackHdr 2 0xE8 0x85) State.reset (.ok (.codes 1512 4)) := ⟨rfl, rfl, rfl⟩

/-- `MakeFrameResult` and `FrameConstructedFirst`: lengths 8, 9 and 15. -/
theorem test_witness_MakeFrameResult :
    (frame 8 []).fLen.toNat ≤ 8 ∧ 8 < (frame 9 []).fLen.toNat ∧ 8 < (frame 15 []).fLen.toNat := by decide

/-- `FrameConstructedFirst`, and the clause for a length above 8 of every statement about an operation that
takes a Frame: a length of 9 with lanes of a recognized payload. -/
theorem test_witness_FrameConstructedFirst : 8 < (frame 9 [0xE8, 0x85, 1, 2, 1, 0]).fLen.toNat := by decide

/-- `IsRecognizedResult`: the shortest and the longest Frame. -/
theorem test_witness_IsRecognizedResult : (frameOf []).fLen.toNat ≤ 8 ∧
    (frameOf [0xE8, 0x85, 1, 2, 3, 4, 5, 6]).fLen.toNat ≤ 8 := by decide

/-- `KindOfResult`: exactly three bytes, and two. -/
theorem test_witness_KindOfResult :
    ((frameOf [0xE8, 0x85, 1]).fLen.toNat ≤ 8 ∧ MatchesRecognized (operandPayload (frameOf [0xE8, 0x85, 1]))) ∧
    ((frameOf [0xE8, 0x85]).fLen.toNat ≤ 8 ∧
      ¬ MatchesRecognized (operandPayload (frameOf [0xE8, 0x85]))) := by decide

/-- `RecognitionProperties`: two bytes; codes that are not the constants; three bytes with the constants. -/
theorem test_witness_RecognitionProperties :
    (frameOf [0xE8, 0x85]).fLen.toNat < 3 ∧
    (Answers (.unpackHdr 3 0xE9 0x85) State.reset (.ok (.codes 1513 4)) ∧ ¬ (1513#11 = 1512#11 ∧ 4#3 = 4#3)) ∧
    (Answers (.unpackHdr 3 0xE8 0x8D) State.reset (.ok (.codes 1512 4)) ∧
      3 ≤ (frameOf [0xE8, 0x8D, 1]).fLen.toNat ∧ (frameOf [0xE8, 0x8D, 1]).fLen.toNat ≤ 8) :=
  ⟨by decide, ⟨rfl, by decide⟩, rfl, by decide⟩

/-- `DecodeSideIgnoresIdentifier`: two operand frames that differ in the identifier, the addresses and the
lanes beyond the length. -/
theorem test_witness_DecodeSideIgnoresIdentifier :
    let f := frame 6 [0xE8, 0x85, 1, 2, 1, 0]
    let f' : OperandFrame := ⟨0x1FFFFFFF, 6, ⟨0xE8, 0x85, 1, 2, 1, 0, 9, 9⟩, 1, 2, 3⟩
    f ≠ f' ∧ f.fLen = f'.fLen ∧ (f.fLen.toNat ≤ 8 → operandPayload f = operandPayload f') := by decide

/-- `EncodedFrameIsConsistent`, `DecodeOfEncodedFrame` and `CrossKindAbsentAndDispatched`: a frame of each
encoder. -/
theorem test_witness_EncodedFrameIsConsistent :
    (∃ aSrc aDst a b c d e : Arg, Instr.encSimpleAction 0x10 0x0E 2 1 ∈ [Instr.encSimpleAction aSrc aDst a b,
      .encStateInfo aSrc a b c, .encCustomHsb aSrc aDst a b c d e, .encStartPattern aSrc aDst a b]) ∧
    Answers (.encSimpleAction 0x10 0x0E 2 1) State.reset
      (.ok (.frame ⟨0x18EF0E10, [0xE8, 0x85, 1, 2, 1, 0], 6, 0x10, 0x0E⟩)) :=
  ⟨⟨0x10, 0x0E, 2, 1, 0, 0, 0, by simp⟩, rfl⟩

/-- `DecodeOfEncodedFrame` and `CrossKindAbsentAndDispatched`: a frame of each encoder, operands over-wide. -/
theorem test_witness_DecodeOfEncodedFrame :
    Answers (.encSimpleAction 300 511 258 0x1FF) State.reset
      (.ok (.frame ⟨0x18EF002C, [0xE8, 0x85, 1, 2, 0xFF, 0], 6, 0x2C, 0xFF⟩)) ∧
    Answers (.encStateInfo 0x42 9 7 200) State.reset
      (.ok (.frame ⟨0x18EF0042, [0xE8, 0x85, 2, 9, 7, 0xC8, 0], 6, 0x42, 0xFF⟩)) ∧
    Answers (.encCustomHsb 0xAB 255 255 255 255 255 255) State.reset
      (.ok (.frame ⟨0x18EF00AB, [0xE8, 0x85, 3, 0xFF, 0xFF, 0xFF, 0xFF, 0xFF], 6, 0xAB, 0xFF⟩)) ∧
    Answers (.encStartPattern 0x10 0x100 1 2) State.reset
      (.ok (.frame ⟨0x18EF0010, [0xE8, 0x85, 4, 1, 2, 0], 6, 0x10, 0x00⟩)) := ⟨rfl, rfl, rfl, rfl⟩

/-- `CrossKindAbsentAndDispatched`: the same four answers, at zero operands. -/
theorem test_witness_CrossKindAbsentAndDispatched :
    Answers (.encSimpleAction 0 0 0 0) State.reset
      (.ok (.frame ⟨0x18EF0000, [0xE8, 0x85, 1, 0, 0, 0], 6, 0, 0⟩)) ∧
    Answers (.encStateInfo 0 0 0 0) State.reset
      (.ok (.frame ⟨0x18EF0000, [0xE8, 0x85, 2, 0, 0, 0, 0], 6, 0, 0xFF⟩)) ∧
    Answers (.encCustomHsb 0 0 0 0 0 0 0) State.reset
      (.ok (.frame ⟨0x18EF0000, [0xE8, 0x85, 3, 0, 0, 0, 0, 0], 6, 0, 0⟩)) ∧
    Answers (.encStartPattern 0 0 0 0) State.reset
      (.ok (.frame ⟨0x18EF0000, [0xE8, 0x85, 4, 0, 0, 0], 6, 0, 0⟩)) := ⟨rfl, rfl, rfl, rfl⟩

/-- `DecSimpleActionResult`: the required length, one byte less, and another kind. -/
theorem test_witness_DecSimpleActionResult :
    (let f := frameOf [0xE8, 0x85, 1, 2, 1, 0]
     f.fLen.toNat ≤ 8 ∧ MatchesKind 1 (operandPayload f) ∧ 6 ≤ f.fLen.toNat) ∧
    (let f := frameOf [0xE8, 0x85, 1, 2, 1]
     f.fLen.toNat ≤ 8 ∧ ¬ (MatchesKind 1 (operandPayload f) ∧ 6 ≤ f.fLen.toNat)) ∧
    (let f := frameOf [0xE8, 0x85, 4, 2, 1, 0]
     f.fLen.toNat ≤ 8 ∧ ¬ (MatchesKind 1 (operandPayload f) ∧ 6 ≤ f.fLen.toNat)) := by decide

/-- `DecStateInfoResult`: the required length, one byte less, and another kind. -/
theorem test_witness_DecStateInfoResult :
    (let f := frameOf [0xE8, 0x85, 2, 5, 1, 0, 0]
     f.fLen.toNat ≤ 8 ∧ MatchesKind 2 (operandPayload f) ∧ 7 ≤ f.fLen.toNat) ∧
    (let f := frameOf [0xE8, 0x85, 2, 5, 1, 0]
     f.fLen.toNat ≤ 8 ∧ ¬ (MatchesKind 2 (operandPayload f) ∧ 7 ≤ f.fLen.toNat)) ∧
    (let f := frameOf [0xE8, 0x85, 1, 5, 1, 0, 0]
     f.fLen.toNat ≤ 8 ∧ ¬ (MatchesKind 2 (operandPayload f) ∧ 7 ≤ f.fLen.toNat)) := by decide

/-- `DecCustomHsbResult`: the required length, one byte less, and another kind. -/
theorem test_witness_DecCustomHsbResult :
    (let f := frameOf [0xE8, 0x85, 3, 8, 1, 0x80, 0xFF, 0xC8]
     f.fLen.toNat ≤ 8 ∧ MatchesKind 3 (operandPayload f) ∧ 8 ≤ f.fLen.toNat) ∧
    (let f := frameOf [0xE8, 0x85, 3, 8, 1, 0x80, 0xFF]
     f.fLen.toNat ≤ 8 ∧ ¬ (MatchesKind 3 (operandPayload f) ∧ 8 ≤ f.fLen.toNat)) ∧
    (let f := frameOf [0xE8, 0x85, 2, 8, 1, 0x80, 0xFF, 0xC8]
     f.fLen.toNat ≤ 8 ∧ ¬ (MatchesKind 3 (operandPayload f) ∧ 8 ≤ f.fLen.toNat)) := by decide

/-- `DecStartPatternResult`: the required length, one byte less, and another kind. -/
theorem test_witness_DecStartPatternResult :
    (let f := frameOf [0xE8, 0x85, 4, 3, 7, 0]
     f.fLen.toNat ≤ 8 ∧ MatchesKind 4 (operandPayload f) ∧ 6 ≤ f.fLen.toNat) ∧
    (let f := frameOf [0xE8, 0x85, 4, 3, 7]
     f.fLen.toNat ≤ 8 ∧ ¬ (MatchesKind 4 (operandPayload f) ∧ 6 ≤ f.fLen.toNat)) ∧
    (let f := frameOf [0xE8, 0x85, 5, 3, 7, 0]
     f.fLen.toNat ≤ 8 ∧ ¬ (MatchesKind 4 (operandPayload f) ∧ 6 ≤ f.fLen.toNat)) := by decide

/-- `ParseAnyDispatches`: each of the four kinds, and the clause for the rest (kinds 0 and 5, and a payload
that is not recognized). -/
theorem test_witness_ParseAnyDispatches :
    (∀ k ∈ [1#8, 2#8, 3#8, 4#8], MatchesKind k (operandPayload (frameOf [0xE8, 0x85, k]))) ∧
    (∀ p ∈ [[0xE8#8, 0x85#8, 0#8], [0xE8#8, 0x85#8, 5#8], [0xE9#8, 0x85#8, 1#8], []],
      (frameOf p).fLen.toNat ≤ 8 ∧ ∀ k : Byte, 1 ≤ k.toNat ∧ k.toNat ≤ 4 →
        ¬ MatchesKind k (operandPayload (frameOf p))) := by
  refine ⟨by decide, ?_⟩
  intro p hp
  simp only [List.mem_cons, List.not_mem_nil, or_false] at hp
  rcases hp with rfl | rfl | rfl | rfl <;> refine ⟨by decide, ?_⟩ <;> decide

/-- `AtMostOneDecoderAnswers`: a decoder that is `OK`; the kinds 4 and 5 of `KIND_OF`; its `ABSENT`. -/
theorem test_witness_AtMostOneDecoderAnswers :
    Answers (.decStateInfo (frameOf [0xE8, 0x85, 2, 5, 1, 0, 0])) State.reset
      (.ok (.message (.stateInfo ⟨1512, 4, 2⟩ 5 1 0))) ∧
    Answers (.kindOf (frameOf [0xE8, 0x85, 4])) State.reset (.ok (.kind 4)) ∧
    Answers (.kindOf (frameOf [0xE8, 0x85, 5])) State.reset (.ok (.kind 5)) ∧
    Answers (.kindOf (frameOf [0xE8, 0x85])) State.reset .absent := ⟨rfl, rfl, rfl, rfl⟩

/-- `OtherKindsAreAbsent`: kinds 0, 5, 16 and 255. -/
theorem test_witness_OtherKindsAreAbsent :
    ∀ k ∈ [0#8, 5#8, 16#8, 255#8], (frameOf [0xE8, 0x85, k]).fLen.toNat ≤ 8 ∧
      MatchesKind k (operandPayload (frameOf [0xE8, 0x85, k])) ∧ ¬ (1 ≤ k.toNat ∧ k.toNat ≤ 4) := by decide

/-- `PayloadFormatsDecode`: the longest bytes beyond the format. -/
theorem test_witness_PayloadFormatsDecode : [1#8, 2#8].length ≤ 2 ∧ [1#8].length ≤ 1 := by decide

/-- `PayloadsWithoutDecoderAreAbsent`: the longest payload, and kinds 0, 5 and 255. -/
theorem test_witness_PayloadsWithoutDecoderAreAbsent : [1#8, 2#8, 3#8, 4#8, 5#8].length ≤ 5 ∧
    ∀ k ∈ [0#8, 5#8, 255#8], ¬ (1 ≤ k.toNat ∧ k.toNat ≤ 4) := by decide

/-- `PayloadAnsweredAsParseAny`: a payload of 8 bytes and the frame with it; one of 9 bytes. -/
theorem test_witness_PayloadAnsweredAsParseAny :
    ((present (.payload [0xE8, 0x85, 3, 8, 1, 0x80, 0xFF, 0xC8])).pending =
        .payload [0xE8, 0x85, 3, 8, 1, 0x80, 0xFF, 0xC8] :: [] ∧
      (frameOf [0xE8, 0x85, 3, 8, 1, 0x80, 0xFF, 0xC8]).fLen.toNat ≤ 8 ∧
      operandPayload (frameOf [0xE8, 0x85, 3, 8, 1, 0x80, 0xFF, 0xC8]) =
        [0xE8, 0x85, 3, 8, 1, 0x80, 0xFF, 0xC8]) ∧
    8 < [1#8, 2#8, 3#8, 4#8, 5#8, 6#8, 7#8, 8#8, 9#8].length := by decide

/-- `UnassignedCodesRaiseIllegalOp`: the codes at the ends of the unassigned ranges. -/
theorem test_witness_UnassignedCodesRaiseIllegalOp :
    ∀ op ∈ [0x08#5, 0x0D#5, 0x10#5, 0x15#5, 0x1F#5], (Request.ofOp op).op ∈ [0x08#5, 0x0D#5, 0x0E#5, 0x0F#5,
      0x10#5, 0x15#5, 0x16#5, 0x17#5, 0x18#5, 0x19#5, 0x1A#5, 0x1B#5, 0x1C#5, 0x1D#5, 0x1E#5, 0x1F#5] := by
  decide

/-- `StatusRowsEndWithTheirCode`: a row of the list. -/
theorem test_witness_StatusRowsEndWithTheirCode :
    (Instr.statusIllegalOp, 4#3) ∈ [(Instr.statusOk, 0#3), (.statusAbsent, 1#3),
      (.statusConstructionError, 2#3), (.statusMalformedHeader, 3#3), (.statusIllegalOp, 4#3)] := by decide

/-- `OnlyStatusDrivenWithoutOk`: an absent response and a fault. -/
theorem test_witness_OnlyStatusDrivenWithoutOk :
    (∀ v, Response.absent ≠ .ok v) ∧ (∀ v, Response.fault .illegalOp ≠ .ok v) := ⟨by simp, by simp⟩

/-- `FrameOnResponsePorts`: the empty payload and one of 8 bytes. -/
theorem test_witness_FrameOnResponsePorts :
    (⟨0, [], 6, 0, 255⟩ : Frame).payload.length ≤ 8 ∧
    (⟨0x18EF0E10, [0xE8, 0x85, 3, 8, 1, 0x80, 0xFF, 0xC8], 6, 0x10, 0x0E⟩ : Frame).payload.length ≤ 8 := by
  decide

/-- `StatusNeverProducedStops`: status 5 and status 7. -/
theorem test_witness_StatusNeverProducedStops :
    ((present (.status 5)).pending = .status 5 :: [] ∧ 5 ≤ (5#3).toNat) ∧ 5 ≤ (7#3).toNat := by decide

end Sys2Proof.Tests
end

section
/-!
The block answers every instruction, with a legal response that is the same in every state (R20, R48), and
every step keeps the run safe (R27, R29).
-/

namespace Sys2Proof.Proofs

open Sys2Proof.Machine Sys2Proof.Laws

/-! ## What a step does with what is pending -/

/-- With nothing pending a step is idle (R37). -/
theorem step_of_pending_nil {s : State} (h : s.pending = []) : step s = .next (idle s) := by
  simp [step, h]

/-- What decodes is run, no longer pending (R26). -/
theorem step_of_decode_ok {s : State} {x : Input} {rest : List Input} {i : Instr}
    (h : s.pending = x :: rest) (hd : decode x = .ok i) : step s = exec i { s with pending := rest } := by
  simp [step, h, hd]

/-- What is no row of the table is answered as such, no longer pending. -/
theorem step_of_decode_error {s : State} {x : Input} {rest : List Input} {e : DecodeError}
    (h : s.pending = x :: rest) (hd : decode x = .error e) :
    step s = answerUndecoded e { s with pending := rest } := by
  simp [step, h, hd]

/-! ## Messages and Frames that the block makes are legal -/

/-- A Message that a decoder reads carries the constants and its tag, if the fields are put under the
header they are read with. -/
theorem decodeVariant_wf {k : Byte} {len : Nat} {fields : ProprietaryHeader → List Byte → Option Message}
    (hfields : ∀ l m, fields (expectedHeader k) l = some m → m.wf = true)
    {fr : Frame} {m : Message} (h : decodeVariant k len fields fr = some m) : m.wf = true := by
  by_cases hk : MatchesKind k fr.payload ∧ len ≤ fr.payload.length
  · rw [decodeVariant_reads hk] at h
    exact hfields _ m h
  · simp [decodeVariant_absent hk] at h

/-- The four decoders (R131 to R134). -/
def decoders : List (Frame → Option Message) :=
  [decodeSimpleAction, decodeStateInfo, decodeCustomHsb, decodeStartPattern]

/-- A decoder's Message carries the constants and its variant's tag (R29). -/
theorem decoders_wf : ∀ d ∈ decoders, ∀ {fr : Frame} {m : Message}, d fr = some m → m.wf = true := by
  simp only [decoders, List.forall_mem_cons, List.not_mem_nil, IsEmpty.forall_iff, implies_true, and_true]
  refine ⟨?_, ?_, ?_, ?_⟩
  all_goals
    refine decodeVariant_wf fun l m hm => ?_
    simp only [fieldsSimpleAction, fieldsStateInfo, fieldsCustomHsb, fieldsStartPattern] at hm
    split at hm <;> cases hm
    simp [Message.wf]

/-- A Message of the dispatcher is the Message of one of the four decoders (R135). -/
theorem parseAny_eq_some {fr : Frame} {m : Message} (h : parseAny fr = some m) :
    ∃ d ∈ decoders, d fr = some m := by
  unfold parseAny at h
  split at h
  · cases h
  · split_ifs at h <;> exact ⟨_, by simp [decoders], h⟩

theorem parseAny_wf {fr : Frame} {m : Message} (h : parseAny fr = some m) : m.wf = true := by
  obtain ⟨d, hd, h⟩ := parseAny_eq_some h
  exact decoders_wf d hd h

/-- The payload of an encoder is the header, the tag, the fields and the reserved byte if there is one
(R120). -/
theorem encodePayload_eq (kind : Byte) (fields : List Arg) (reserved : Bool) :
    encodePayload kind fields reserved =
      packHeader mfrOperand indOperand ++ kind :: fields.map (mask 8) ++ (if reserved then [0] else []) := by
  have hheader : (packHeader mfrOperand indOperand).length = 2 := rfl
  simp only [encodePayload]
  rw [memWrite_append [kind] hheader, memWrite_append (fields.map (mask 8)) (by simp [hheader])]
  cases reserved with
  | false => simp
  | true =>
    rw [memWrite_append [0] (by simp [hheader]; omega)]
    simp

/-- An encoder of at most four fields and a reserved byte, or at most five fields, makes a Frame (R27). -/
theorem encodeFrame_wf {kind : Byte} {aSrc aDst : Arg} {fields : List Arg} {reserved : Bool}
    (h : 3 + fields.length + reserved.toNat ≤ 8) :
    (encodeFrame kind aSrc aDst fields reserved).wf = true := by
  have hheader : (packHeader mfrOperand indOperand).length = 2 := rfl
  have hlen : (encodePayload kind fields reserved).length = 3 + fields.length + reserved.toNat := by
    cases reserved <;> simp [encodePayload_eq, hheader] <;> omega
  simpa [Frame.wf, encodeFrame, hlen] using h

/-! ## Every instruction is answered -/

/-- The operation ends in a next state, answered with a legal response that is the same in every state. -/
def GivesLegalAnswer (k : State → StepOutcome) : Prop :=
  ∃ r : Response, r.legal = true ∧ ∀ s, k s = .next (respond r s)

theorem returnOk_givesLegalAnswer {v : Result} (h : v.legal = true) : GivesLegalAnswer (returnOk v) :=
  ⟨.ok v, h, returnOk_eq v⟩

theorem answerAbsent_givesLegalAnswer : GivesLegalAnswer answerAbsent :=
  ⟨.absent, rfl, answerAbsent_eq⟩

theorem raise_givesLegalAnswer (f : BlockFault) : GivesLegalAnswer (raise f) :=
  ⟨.fault f, rfl, raise_eq f⟩

theorem answerOptional_givesLegalAnswer {v : Option Result} (h : ∀ r, v = some r → r.legal = true) :
    GivesLegalAnswer (answerOptional v) := by
  cases v with
  | none => exact answerAbsent_givesLegalAnswer
  | some r => exact returnOk_givesLegalAnswer (h r rfl)

theorem answerMessage_givesLegalAnswer {d : Frame → Option Message} {fr : Frame}
    (h : ∀ m, d fr = some m → m.wf = true) : GivesLegalAnswer (answerMessage d fr) := by
  refine answerOptional_givesLegalAnswer (fun r hr => ?_)
  obtain ⟨m, hm, rfl⟩ := Option.map_eq_some_iff.1 hr
  exact h m hm

/-- An operation on a Frame is answered if it is answered on every Frame that keeps its invariant; where
there is no Frame, the construction error is the answer (R111). -/
theorem withFrame_givesLegalAnswer {f : OperandFrame} {k : Frame → State → StepOutcome}
    (h : ∀ fr : Frame, fr.wf = true → GivesLegalAnswer (k fr)) : GivesLegalAnswer (withFrame f k) := by
  rcases Nat.lt_or_ge 8 f.fLen.toNat with hlen | hlen
  · exact ⟨_, rfl, fun s => withFrame_of_gt k s hlen⟩
  · obtain ⟨r, hr, hk⟩ := h ⟨f.fId, operandPayload f, f.fPrio, f.fSrc, f.fDst⟩
      (by simp [Frame.wf, operandPayload_length hlen, hlen])
    exact ⟨r, hr, fun s => (withFrame_of_le k s hlen).trans (hk s)⟩

theorem answerUnpack_givesLegalAnswer (b : List Byte) : GivesLegalAnswer (answerUnpack b) := by
  rcases h : unpackHeader b with e | ⟨mfr, ind⟩
  · exact ⟨.fault e, rfl, fun s => by simp [answerUnpack, h]⟩
  · exact ⟨.ok (.codes mfr ind), rfl, fun s => by simp [answerUnpack, h]⟩

theorem routePayload_givesLegalAnswer (p : List Byte) : GivesLegalAnswer (routePayload p) := by
  rcases h : framePayload p with e | fr
  · exact ⟨.fault e, rfl, fun s => by simp [routePayload, h]⟩
  · obtain ⟨r, hr, hk⟩ := answerMessage_givesLegalAnswer (fr := fr) (fun m => parseAny_wf)
    exact ⟨r, hr, fun s => by simp [routePayload, h, hk]⟩

/-- Every instruction is answered with a legal response that is the same in every state (R20, R48). -/
theorem exec_givesLegalAnswer (i : Instr) : GivesLegalAnswer (exec i) := by
  cases i with
  | buildId | decomposeId | packHdr | identifier | statusOk => exact returnOk_givesLegalAnswer rfl
  | unpackHdr => exact answerUnpack_givesLegalAnswer _
  | headerWord => exact answerUnpack_givesLegalAnswer (wordBytes _)
  | makeFrame => exact withFrame_givesLegalAnswer fun _ hfr => returnOk_givesLegalAnswer hfr
  | isRecognized => exact withFrame_givesLegalAnswer fun _ _ => returnOk_givesLegalAnswer rfl
  | kindOf =>
    refine withFrame_givesLegalAnswer fun fr _ => answerOptional_givesLegalAnswer fun r hr => ?_
    obtain ⟨k, -, rfl⟩ := Option.map_eq_some_iff.1 hr
    rfl
  | encSimpleAction | encStateInfo | encCustomHsb | encStartPattern =>
    exact returnOk_givesLegalAnswer (encodeFrame_wf (by simp))
  | decSimpleAction | decStateInfo | decCustomHsb | decStartPattern =>
    exact withFrame_givesLegalAnswer fun _ _ =>
      answerMessage_givesLegalAnswer fun _ => decoders_wf _ (by simp [decoders])
  | parseAny =>
    exact withFrame_givesLegalAnswer fun _ _ => answerMessage_givesLegalAnswer fun _ => parseAny_wf
  | payloadSimpleAction | payloadStateInfo | payloadStartPattern | payloadReservedKind5 | payloadReservedKind6
  | payloadReservedKind7 | payloadReservedKind8 | payloadReservedKind16 | payloadUnassignedKind =>
    exact routePayload_givesLegalAnswer _
  | payloadCustomHsb => exact routePayload_givesLegalAnswer (recognizedPayload _ _ [_, _, _, _, _])
  | unassignedOp08 | unassignedOp0D | unassignedOp0E | unassignedOp0F | unassignedOp10 | unassignedOp15
  | unassignedOp16 | unassignedOp17 | unassignedOp18 | unassignedOp19 | unassignedOp1A | unassignedOp1B
  | unassignedOp1C | unassignedOp1D | unassignedOp1E | unassignedOp1F
  | statusConstructionError | statusMalformedHeader | statusIllegalOp => exact raise_givesLegalAnswer _
  | statusAbsent => exact answerAbsent_givesLegalAnswer

/-- What is no row of the table is answered too, but for a status code that is never produced. -/
theorem answerUndecoded_givesLegalAnswer {e : DecodeError} (h : e ≠ .statusNeverProduced) :
    GivesLegalAnswer (answerUndecoded e) := by
  cases e with
  | payloadTooLong => exact raise_givesLegalAnswer _
  | payloadTooShort | notRecognized | tooShortForKind => exact answerAbsent_givesLegalAnswer
  | statusNeverProduced => exact absurd rfl h

/-! ## Every step keeps the run safe -/

/-- Everything that a step can do: be idle, answer what is presented with a legal response, or stop at a
status code that is never produced. -/
theorem step_cases (s : State) :
    (s.pending = [] ∧ step s = .next (idle s)) ∨
    (∃ x rest r, s.pending = x :: rest ∧ Answerable x ∧ r.legal = true ∧
      step s = .next (respond r { s with pending := rest })) ∨
    (∃ x rest, s.pending = x :: rest ∧ ¬ Answerable x ∧ step s = .fault .statusNeverProduced) := by
  rcases hp : s.pending with _ | ⟨x, rest⟩
  · exact .inl ⟨rfl, step_of_pending_nil hp⟩
  · refine .inr ?_
    rcases hd : decode x with e | i
    · by_cases he : e = .statusNeverProduced
      · subst he
        exact .inr ⟨x, rest, rfl, fun h => h hd, step_of_decode_error hp hd⟩
      · obtain ⟨r, hr, hk⟩ := answerUndecoded_givesLegalAnswer he
        exact .inl ⟨x, rest, r, rfl, by simp [Answerable, hd, he], hr,
          (step_of_decode_error hp hd).trans (hk _)⟩
    · obtain ⟨r, hr, hk⟩ := exec_givesLegalAnswer i
      exact .inl ⟨x, rest, r, rfl, by simp [Answerable, hd], hr, (step_of_decode_ok hp hd).trans (hk _)⟩

theorem idle_safe {s : State} (hs : s.Safe) : (idle s).Safe :=
  ⟨hs.1, by simp⟩

/-- Answering with a legal response keeps the run safe, whatever is pending. -/
theorem respond_safe {s : State} {r : Response} (l : List Input) (hr : r.legal = true) (hs : s.Safe) :
    (respond r { s with pending := l }).Safe := by
  obtain ⟨hlegal, -⟩ := hs
  refine ⟨fun q hq => ?_, by simp⟩
  obtain hq | rfl : q ∈ s.responses ∨ q = r := by simpa using hq
  · exact hlegal q hq
  · exact hr

/-- Settles O10: a step is idle, answers with a legal response, or gives no next state. -/
theorem stepKeepsSafe : Obligations.StepKeepsSafe := by
  intro s t hs hstep
  obtain ⟨-, h⟩ | ⟨x, rest, r, -, -, hr, h⟩ | ⟨x, rest, -, -, h⟩ := step_cases s
  · cases h.symm.trans hstep
    exact idle_safe hs
  · cases h.symm.trans hstep
    exact respond_safe rest hr hs
  · cases h.symm.trans hstep

/-- Settles O9: the response is the one of `exec_givesLegalAnswer`. -/
theorem responseDependsOnRequestOnly : Obligations.ResponseDependsOnRequestOnly := by
  intro i
  obtain ⟨r, -, hk⟩ := exec_givesLegalAnswer i
  exact ⟨r, fun s => ⟨respond r s, hk s, by simp⟩⟩

/-- Settles O1. -/
theorem stepRunsDecodedInstruction : Obligations.StepRunsDecodedInstruction :=
  fun _ _ _ _ => step_of_decode_ok

/-- Settles O3: such a step is idle, and an idle state has a free value on every port. -/
theorem noRequestNoAnswer : Obligations.NoRequestNoAnswer :=
  fun s h => ⟨idle s, step_of_pending_nil h, by simp [h, responsePorts]⟩

end Sys2Proof.Proofs
end

section
/-!
The response ports of an answered transaction (R34 to R36).
-/

namespace Sys2Proof.Proofs

open Sys2Proof.Machine Sys2Proof.Laws

/-- After an answer the ports carry its response, over the free values of the answered state. -/
@[simp] theorem responsePorts_respond (r : Response) (s : State) :
    responsePorts (respond r s) = driveResponse (Config.undrivenPorts (s.freeIndex + 1)) r := rfl

/-- The lanes of a payload of at most 8 bytes are its bytes and zeros after them (R35). -/
theorem lanesToList_lanesOfPayload {p : List Byte} (h : p.length ≤ 8) :
    lanesToList (lanesOfPayload p) = p ++ List.replicate (8 - p.length) 0 := by
  have hlanes : lanesToList (lanesOfPayload p) = (List.range 8).map (fun i => p.getD i 0) := rfl
  rw [hlanes]
  refine List.ext_getElem (by simp; omega) (fun i _ _ => ?_)
  rcases Nat.lt_or_ge i p.length with hi | hi
  · simp [List.getElem_append_left hi, hi]
  · simp [List.getElem_append_right hi, hi]

/-- Settles O52: the ports are the fields of the Frame, and the lanes are `lanesToList_lanesOfPayload`. -/
theorem frameOnResponsePorts : Obligations.FrameOnResponsePorts := by
  intro s fr hlen
  have hLen : (BitVec.ofNat 4 fr.payload.length).toNat = fr.payload.length := by
    simp; omega
  exact ⟨rfl, hLen, rfl, rfl, rfl, lanesToList_lanesOfPayload hlen⟩

/-- Settles O51: of the three kinds of response, an `OK` is excluded and the two others drive `status`. -/
theorem onlyStatusDrivenWithoutOk : Obligations.OnlyStatusDrivenWithoutOk := by
  intro s r hr
  cases r with
  | ok v => exact absurd rfl (hr v)
  | absent => rfl
  | fault f => rfl

/-- Settles O53: `driveMessage` of each variant. -/
theorem messageOnResponsePorts : Obligations.MessageOnResponsePorts :=
  fun _ _ _ _ _ _ _ => ⟨rfl, rfl, rfl, rfl⟩

end Sys2Proof.Proofs
end

section
/-!
The ports that an operation does not read (R36, R68): the operations that take a Frame and answer from its
payload alone, the operation of each select code, and the noninterference of the rest.
-/

namespace Sys2Proof.Proofs

open Sys2Proof.Machine Sys2Proof.Laws

/-! ## The validator and the decoders read the payload only -/

theorem isRecognized_congr {fr fr' : Frame} (h : fr.payload = fr'.payload) :
    isRecognized fr = isRecognized fr' := by
  simp [isRecognized, h]

theorem kindOf_congr {fr fr' : Frame} (h : fr.payload = fr'.payload) : kindOf fr = kindOf fr' := by
  simp [kindOf, isRecognized_congr h, h]

theorem decodeVariant_congr {k : Byte} {len : Nat} {fields : ProprietaryHeader → List Byte → Option Message}
    {fr fr' : Frame} (h : fr.payload = fr'.payload) :
    decodeVariant k len fields fr = decodeVariant k len fields fr' := by
  simp [decodeVariant, kindOf_congr h, h]

theorem parseAny_congr {fr fr' : Frame} (h : fr.payload = fr'.payload) : parseAny fr = parseAny fr' := by
  simp [parseAny, kindOf_congr h, decodeSimpleAction, decodeStateInfo, decodeCustomHsb, decodeStartPattern,
    decodeVariant_congr h]

/-- An operation that reads the payload only gives the same on two operand frames with the same length and
lanes. -/
theorem withFrame_congr {f f' : OperandFrame} {k : Frame → State → StepOutcome}
    (hlen : f.fLen = f'.fLen) (hdata : f.fData = f'.fData)
    (hk : ∀ fr fr' : Frame, fr.payload = fr'.payload → k fr = k fr') : withFrame f k = withFrame f' k := by
  funext s
  obtain ⟨h, e⟩ | ⟨h, e⟩ := withFrame_cases f k s
  · rw [e, withFrame_of_gt k s (hlen ▸ h)]
  · rw [e, withFrame_of_le k s (hlen ▸ h)]
    exact congrFun (hk _ _ (by simp [operandPayload, hlen, hdata])) s

/-- The seven operations that answer from the payload of their operand frame, with their select codes
(R74). -/
def payloadOps : List (OpCode × (OperandFrame → Instr)) :=
  [(0x05, .isRecognized), (0x06, .kindOf), (0x07, .parseAny), (0x11, .decSimpleAction),
    (0x12, .decStateInfo), (0x13, .decCustomHsb), (0x14, .decStartPattern)]

/-- A fact about each of the seven operations is seven facts. -/
theorem forall_payloadOps {P : OpCode → (OperandFrame → Instr) → Prop} :
    (∀ q ∈ payloadOps, P q.1 q.2) ↔
      P 0x05 .isRecognized ∧ P 0x06 .kindOf ∧ P 0x07 .parseAny ∧ P 0x11 .decSimpleAction ∧
      P 0x12 .decStateInfo ∧ P 0x13 .decCustomHsb ∧ P 0x14 .decStartPattern := by
  simp [payloadOps]

/-- Of the operand frame the seven operations read the length and the lanes only (R68). -/
theorem exec_payloadOp_congr {f f' : OperandFrame} (hlen : f.fLen = f'.fLen) (hdata : f.fData = f'.fData) :
    ∀ q ∈ payloadOps, exec (q.2 f) = exec (q.2 f') := by
  have hmsg {d : Frame → Option Message} (hd : ∀ fr fr' : Frame, fr.payload = fr'.payload → d fr = d fr') :
      withFrame f (answerMessage d) = withFrame f' (answerMessage d) :=
    withFrame_congr hlen hdata fun fr fr' h => by funext s; simp [answerMessage, hd fr fr' h]
  refine forall_payloadOps (P := fun _ c => exec (c f) = exec (c f')).2 ⟨?_, ?_, ?_, ?_, ?_, ?_, ?_⟩
  · exact withFrame_congr hlen hdata fun _ _ h => by rw [isRecognized_congr h]
  · exact withFrame_congr hlen hdata fun _ _ h => by rw [kindOf_congr h]
  · exact hmsg fun _ _ => parseAny_congr
  all_goals exact hmsg fun _ _ => decodeVariant_congr

/-! ## The instruction of each select code (R74) -/

section
variable {r : Request}

theorem decodeRequest_op00 (h : r.op = 0x00) : decodeRequest r = .buildId r.aPn r.aSrc r.aDst r.aPrio := by
  simp [decodeRequest, h]
theorem decodeRequest_op01 (h : r.op = 0x01) : decodeRequest r = .decomposeId r.f.fId := by
  simp [decodeRequest, h]
theorem decodeRequest_op02 (h : r.op = 0x02) : decodeRequest r = .packHdr r.aMfr r.aInd := by
  simp [decodeRequest, h]
theorem decodeRequest_op03 (h : r.op = 0x03) :
    decodeRequest r = .unpackHdr r.f.fLen r.f.fData.d0 r.f.fData.d1 := by
  simp [decodeRequest, h]
theorem decodeRequest_op04 (h : r.op = 0x04) : decodeRequest r = .makeFrame r.f := by
  simp [decodeRequest, h]
theorem decodeRequest_op09 (h : r.op = 0x09) :
    decodeRequest r = .encSimpleAction r.aSrc r.aDst r.aF0 r.aF1 := by
  simp [decodeRequest, h]
theorem decodeRequest_op0A (h : r.op = 0x0A) :
    decodeRequest r = .encStateInfo r.aSrc r.aF0 r.aF1 r.aF2 := by
  simp [decodeRequest, h]
theorem decodeRequest_op0B (h : r.op = 0x0B) :
    decodeRequest r = .encCustomHsb r.aSrc r.aDst r.aF0 r.aF1 r.aF2 r.aF3 r.aF4 := by
  simp [decodeRequest, h]
theorem decodeRequest_op0C (h : r.op = 0x0C) :
    decodeRequest r = .encStartPattern r.aSrc r.aDst r.aF0 r.aF1 := by
  simp [decodeRequest, h]

theorem decodeRequest_payloadOp :
    ∀ q ∈ payloadOps, ∀ r : Request, r.op = q.1 → decodeRequest r = q.2 r.f := by
  refine forall_payloadOps (P := fun op c => ∀ r : Request, r.op = op → decodeRequest r = c r.f).2
    ⟨?_, ?_, ?_, ?_, ?_, ?_, ?_⟩
  all_goals intro r h; simp [decodeRequest, h]

/-- The unassigned select codes (R82). -/
def unassignedOps : List OpCode :=
  [0x08, 0x0D, 0x0E, 0x0F, 0x10, 0x15, 0x16, 0x17, 0x18, 0x19, 0x1A, 0x1B, 0x1C, 0x1D, 0x1E, 0x1F]

/-- An unassigned code raises `IllegalOp`, whatever stands on the operand ports (R82, R145). -/
theorem exec_decodeRequest_unassigned {r : Request} (h : r.op ∈ unassignedOps) :
    exec (decodeRequest r) = raise .illegalOp := by
  simp only [unassignedOps, List.mem_cons, List.not_mem_nil, or_false] at h
  rcases h with h | h | h | h | h | h | h | h | h | h | h | h | h | h | h | h
  all_goals simp only [decodeRequest, h]; rfl

/-- Every select code is unassigned, one of the seven that answer from the payload, or one of the nine
others. -/
theorem op_cases : ∀ op : OpCode, op ∈ unassignedOps ∨ op ∈ payloadOps.map Prod.fst ∨
    op = 0x00 ∨ op = 0x01 ∨ op = 0x02 ∨ op = 0x03 ∨ op = 0x04 ∨ op = 0x09 ∨ op = 0x0A ∨ op = 0x0B ∨
    op = 0x0C := by
  decide

end

/-- Settles O8: by the select code; each operation gets from `decodeRequest` the ports it reads, and the
seven of `payloadOps` read of the operand frame they get only the length and the lanes. -/
theorem unreadPortsHaveNoEffect : Obligations.UnreadPortsHaveNoEffect := by
  intro r r' s hop h00 h01 h02 h03 h04 hPayload h09 h0A h0B
  obtain h | h | h | h | h | h | h | h | h | h | h := op_cases r.op
  · rw [exec_decodeRequest_unassigned h, exec_decodeRequest_unassigned (hop ▸ h)]
  · obtain ⟨hlen, hdata⟩ := hPayload h
    obtain ⟨q, hq, e⟩ := List.mem_map.1 h
    rw [decodeRequest_payloadOp q hq r e.symm, decodeRequest_payloadOp q hq r' (hop ▸ e.symm),
      exec_payloadOp_congr hlen hdata q hq]
  · obtain ⟨hPn, hSrc, hDst, hPrio⟩ := h00 h
    rw [decodeRequest_op00 h, decodeRequest_op00 (hop ▸ h), hPn, hSrc, hDst, hPrio]
  · rw [decodeRequest_op01 h, decodeRequest_op01 (hop ▸ h), h01 h]
  · obtain ⟨hMfr, hInd⟩ := h02 h
    rw [decodeRequest_op02 h, decodeRequest_op02 (hop ▸ h), hMfr, hInd]
  · obtain ⟨hLen, hd0, hd1⟩ := h03 h
    rw [decodeRequest_op03 h, decodeRequest_op03 (hop ▸ h), hLen, hd0, hd1]
  · rw [decodeRequest_op04 h, decodeRequest_op04 (hop ▸ h), h04 h]
  · obtain ⟨hSrc, hDst, hF0, hF1⟩ := h09 (by simp [h])
    rw [decodeRequest_op09 h, decodeRequest_op09 (hop ▸ h), hSrc, hDst, hF0, hF1]
  · obtain ⟨hSrc, hF0, hF1, hF2⟩ := h0A h
    rw [decodeRequest_op0A h, decodeRequest_op0A (hop ▸ h), hSrc, hF0, hF1, hF2]
  · obtain ⟨hSrc, hDst, hF0, hF1, hF2, hF3, hF4⟩ := h0B h
    rw [decodeRequest_op0B h, decodeRequest_op0B (hop ▸ h), hSrc, hDst, hF0, hF1, hF2, hF3, hF4]
  · obtain ⟨hSrc, hDst, hF0, hF1⟩ := h09 (by simp [h])
    rw [decodeRequest_op0C h, decodeRequest_op0C (hop ▸ h), hSrc, hDst, hF0, hF1]

end Sys2Proof.Proofs
end

section
/-!
The encodings of spec/30_encoding.md: the layouts of the identifier and of the header word as numbers, the
masking of over-wide operands (R71), the recognized payloads by their kind (R75, R79, R80), the unassigned
operation codes (R82) and words written from the code tables.
-/

namespace Sys2Proof.Proofs

open Sys2Proof.Machine Sys2Proof.Laws

/-! ## The identifier and the header word as numbers (R60, R62) -/

/-- Concatenation as arithmetic: the left part stands above the `v` bits of the right part. -/
theorem toNat_append_eq_add {w v : Nat} (a : BitVec w) (b : BitVec v) :
    (a ++ b).toNat = a.toNat * 2 ^ v + b.toNat := by
  rw [BitVec.toNat_append, ← Nat.shiftLeft_add_eq_or_of_lt b.isLt, Nat.shiftLeft_eq]

/-- The layout of the identifier as a number (R60). -/
theorem joinIdentifier_toNat (p : Priority) (n : ProtocolNumber) (src : Byte) :
    (joinIdentifier p n src).toNat = p.toNat * 2 ^ 26 + n.toNat * 2 ^ 8 + src.toNat := by
  rw [joinIdentifier_eq_append, toNat_append_eq_add, toNat_append_eq_add]
  omega

/-- The layout of the header word as a number (R62). -/
theorem joinHeaderWord_toNat (m : ManufacturerCode) (res : BitVec 2) (i : IndustryCode) :
    (joinHeaderWord m res i).toNat = m.toNat + res.toNat * 2 ^ 11 + i.toNat * 2 ^ 13 := by
  rw [joinHeaderWord_eq_append, toNat_append_eq_add, toNat_append_eq_add]
  omega

/-- Decomposing gives the placed fields back (R72, R73). -/
@[simp] theorem decomposeIdentifier_joinIdentifier (p : Priority) (n : ProtocolNumber) (src : Byte) :
    decomposeIdentifier (joinIdentifier p n src) = .parts p n src := by
  rw [decomposeIdentifier, idPriority_joinIdentifier, idRegion_joinIdentifier, idSource_joinIdentifier]

/-- Unpacking the two bytes of a word gives its two codes, whatever its bits 12:11 (R42, R101). -/
@[simp] theorem unpackHeader_wordBytes (w : HeaderWord) :
    unpackHeader (wordBytes w) = .ok (headerManufacturer w, headerIndustry w) := by
  rw [wordBytes, unpackHeader_cons, wordOfBytes_extract]

/-- The answer to the two bytes of a word (R101). -/
theorem answerUnpack_wordBytes (w : HeaderWord) :
    answerUnpack (wordBytes w) = returnOk (.codes (headerManufacturer w) (headerIndustry w)) := by
  funext s
  simp [answerUnpack]

/-- Settles O19. -/
theorem identifierRowDecomposes : Obligations.IdentifierRowDecomposes := by
  intro p n src s
  refine ⟨?_, joinIdentifier_toNat p n src⟩
  change returnOk (decomposeIdentifier (joinIdentifier p n src)) s = _
  simp

/-- Settles O23. -/
theorem headerWordRowUnpacks : Obligations.HeaderWordRowUnpacks := by
  intro m res i s
  refine ⟨?_, joinHeaderWord_toNat m res i⟩
  change answerUnpack (wordBytes (joinHeaderWord m res i)) s = _
  rw [answerUnpack_wordBytes, headerManufacturer_joinHeaderWord, headerIndustry_joinHeaderWord, returnOk_eq]

/-! ## Over-wide operands (R71, R175) -/

/-- Masking twice is masking once: the second mask has ones in all bits of the field. -/
theorem mask_and {w : Nat} {a c : Arg} (hc : c.setWidth w = BitVec.allOnes w) :
    mask w (a &&& c) = mask w a := by
  rw [mask, BitVec.setWidth_and, hc, BitVec.and_allOnes, mask]

@[simp] theorem mask_3_and (a : Arg) : mask 3 (a &&& 0x7#32) = mask 3 a := mask_and (by decide)
@[simp] theorem mask_8_and (a : Arg) : mask 8 (a &&& 0xFF#32) = mask 8 a := mask_and (by decide)
@[simp] theorem mask_11_and (a : Arg) : mask 11 (a &&& 0x7FF#32) = mask 11 a := mask_and (by decide)
@[simp] theorem mask_18_and (a : Arg) : mask 18 (a &&& 0x3FFFF#32) = mask 18 a := mask_and (by decide)

/-- The identifier is built from the masked operands alone; the destination is tested against 255 after
masking (R90). -/
theorem buildIdentifier_eq (aPn aSrc aDst aPrio : Arg) :
    buildIdentifier aPn aSrc aDst aPrio =
      joinIdentifier (mask 3 aPrio) (region (mask 18 aPn) (mask 8 aDst) (mask 8 aDst == Config.broadcast))
        (mask 8 aSrc) := rfl

theorem buildIdentifier_masked (aPn aSrc aDst aPrio : Arg) :
    buildIdentifier (aPn &&& 0x3FFFF#32) (aSrc &&& 0xFF#32) (aDst &&& 0xFF#32) (aPrio &&& 0x7#32) =
      buildIdentifier aPn aSrc aDst aPrio := by
  simp [buildIdentifier_eq]

theorem packHeaderWord_masked (aMfr aInd : Arg) :
    packHeaderWord (aMfr &&& 0x7FF#32) (aInd &&& 0x7#32) = packHeaderWord aMfr aInd := by
  simp [packHeaderWord]

/-- An encoder's payload carries the fields masked (R120). -/
theorem encodePayload_masked (kind : Byte) (fields : List Arg) (reserved : Bool) :
    encodePayload kind (fields.map (· &&& 0xFF#32)) reserved = encodePayload kind fields reserved := by
  simp [encodePayload_eq, Function.comp_def]

/-- An encoder's Frame is made of the masked operands (R120). -/
theorem encodeFrame_masked (kind : Byte) (aSrc aDst : Arg) (fields : List Arg) (reserved : Bool) :
    encodeFrame kind (aSrc &&& 0xFF#32) (aDst &&& 0xFF#32) (fields.map (· &&& 0xFF#32)) reserved =
      encodeFrame kind aSrc aDst fields reserved := by
  simp [encodeFrame, buildIdentifier_eq, encodePayload_masked]

/-- An encoder answers alike with its operands and with its operands masked. -/
theorem returnOk_encodeFrame_masked (kind : Byte) (aSrc aDst : Arg) (fields : List Arg) (reserved : Bool)
    (s : State) : returnOk (.frame (encodeFrame kind aSrc aDst fields reserved)) s =
      returnOk (.frame (encodeFrame kind (aSrc &&& 0xFF#32) (aDst &&& 0xFF#32)
        (fields.map (· &&& 0xFF#32)) reserved)) s := by
  rw [encodeFrame_masked]

/-- Settles O35: the identifier, the header word and the encoders' Frames are those of the masked operands.
`ENC_STATE_INFO` has no destination operand; the 255 in its place masks to itself. -/
theorem overWideOperandsAreMasked : Obligations.OverWideOperandsAreMasked := by
  intro s x1 x2 x3 x4 x5 x6 x7
  refine ⟨?_, ?_, ?_, ?_, ?_, ?_⟩
  · simp only [exec, execBuildId, buildIdentifier_masked]
  · simp only [exec, execPackHdr, packHeaderWord_masked]
  · exact returnOk_encodeFrame_masked _ x1 x2 [x3, x4] true s
  · exact returnOk_encodeFrame_masked _ x1 (Config.broadcast.setWidth 32) [x2, x3, x4] true s
  · exact returnOk_encodeFrame_masked _ x1 x2 [x3, x4, x5, x6, x7] false s
  · exact returnOk_encodeFrame_masked _ x1 x2 [x3, x4] true s

/-! ## The decoder of each kind (R75, R130, R135) -/

/-- A payload is of one kind only. -/
theorem matchesKind_unique {k k' : Byte} {p : List Byte} (h : MatchesKind k p) (h' : MatchesKind k' p) :
    k = k' := by
  obtain ⟨-, e⟩ := (matchesKind_iff_recognized k p).1 h
  obtain ⟨-, e'⟩ := (matchesKind_iff_recognized k' p).1 h'
  simpa [e] using e'

/-- The kinds that have a decoder, with their decoders (R75). -/
def kindDecoders : List (Byte × (Frame → Option Message)) :=
  [(Config.kindSimpleAction, decodeSimpleAction), (Config.kindStateInfo, decodeStateInfo),
    (Config.kindCustomHsb, decodeCustomHsb), (Config.kindStartPattern, decodeStartPattern)]

/-- A fact about each kind with a decoder is four facts. -/
theorem forall_kindDecoders {P : Byte → (Frame → Option Message) → Prop} :
    (∀ q ∈ kindDecoders, P q.1 q.2) ↔
      P Config.kindSimpleAction decodeSimpleAction ∧ P Config.kindStateInfo decodeStateInfo ∧
      P Config.kindCustomHsb decodeCustomHsb ∧ P Config.kindStartPattern decodeStartPattern := by
  simp [kindDecoders]

/-- The dispatcher selects the decoder of the payload's kind (R135). -/
theorem parseAny_of_matchesKind {fr : Frame} :
    ∀ q ∈ kindDecoders, MatchesKind q.1 fr.payload → parseAny fr = q.2 fr := by
  refine forall_kindDecoders (P := fun k d => MatchesKind k fr.payload → parseAny fr = d fr).2
    ⟨?_, ?_, ?_, ?_⟩
  all_goals
    intro h
    simp [parseAny, (kindOf_eq_some_iff fr _).2 h]

/-- A decoder is absent for a payload that is not of its kind (R130). -/
theorem kindDecoders_absent {fr : Frame} :
    ∀ q ∈ kindDecoders, ¬ MatchesKind q.1 fr.payload → q.2 fr = none := by
  refine forall_kindDecoders (P := fun k d => ¬ MatchesKind k fr.payload → d fr = none).2 ⟨?_, ?_, ?_, ?_⟩
  all_goals exact fun h => decodeVariant_absent fun hk => h hk.1

/-- A kind other than 1 to 4 has no decoder. -/
theorem kind_ne_of_other {k : Byte} (hk : ¬ (1 ≤ k.toNat ∧ k.toNat ≤ 4)) : ∀ q ∈ kindDecoders, q.1 ≠ k := by
  refine forall_kindDecoders (P := fun k' _ => k' ≠ k).2 ⟨?_, ?_, ?_, ?_⟩
  all_goals
    rintro rfl
    exact hk (by decide)

/-- Every decoder is absent for a payload of a kind other than 1 to 4 (R79, R80). -/
theorem decoders_absent_of_other {fr : Frame} {k : Byte} (h : MatchesKind k fr.payload)
    (hk : ¬ (1 ≤ k.toNat ∧ k.toNat ≤ 4)) : ∀ d ∈ decoders, d fr = none := by
  intro d hd
  obtain ⟨q, hq, rfl⟩ := List.mem_map.1 (show d ∈ kindDecoders.map Prod.snd from hd)
  exact kindDecoders_absent q hq fun hq' => kind_ne_of_other hk q hq (matchesKind_unique hq' h)

/-- The dispatcher is absent where every decoder is (R135, R136). -/
theorem parseAny_absent {fr : Frame} (h : ∀ d ∈ decoders, d fr = none) : parseAny fr = none := by
  refine Option.eq_none_iff_forall_ne_some.2 fun m hm => ?_
  obtain ⟨d, hd, e⟩ := parseAny_eq_some hm
  simp [h d hd] at e

/-- A decoder that gives no Message answers `ABSENT` (R130). -/
theorem withFrame_answerMessage_absent {f : OperandFrame} {d : Frame → Option Message} (s : State)
    (hlen : f.fLen.toNat ≤ 8) (h : d ⟨f.fId, operandPayload f, f.fPrio, f.fSrc, f.fDst⟩ = none) :
    withFrame f (answerMessage d) s = .next (respond .absent s) := by
  simp [withFrame_of_le _ s hlen, answerMessage, h]

/-- Settles O44: the payload is recognized and has kind `k`, which is the kind of none of the decoders. -/
theorem otherKindsAreAbsent : Obligations.OtherKindsAreAbsent := by
  intro f k s hlen hkind hk
  have hrec : MatchesRecognized (operandPayload f) := ((matchesKind_iff_recognized k _).1 hkind).1
  have hnone := decoders_absent_of_other
    (fr := ⟨f.fId, operandPayload f, f.fPrio, f.fSrc, f.fDst⟩) hkind hk
  have habsent {d} (hd : d ∈ decoders) := withFrame_answerMessage_absent s hlen (hnone d hd)
  refine ⟨?_, ?_, withFrame_answerMessage_absent s hlen (parseAny_absent hnone), habsent ?_, habsent ?_,
    habsent ?_, habsent ?_⟩
  · refine (withFrame_of_le _ s hlen).trans ?_
    rw [isRecognized_eq_matches, decide_eq_true hrec, returnOk_eq]
  · refine (withFrame_of_le _ s hlen).trans ?_
    rw [(kindOf_eq_some_iff _ k).2 hkind, Option.map_some, answerOptional_some]
  all_goals simp [decoders]

/-! ## The payload rows (R63 to R67, R79, R80) -/

/-- A bare payload of at most 8 bytes is answered by the dispatcher (R111, R135). -/
theorem routePayload_of_le {p : List Byte} (h : p.length ≤ 8) :
    routePayload p = answerMessage parseAny { payload := p } := by
  have hframe : framePayload p = .ok { payload := p } := if_neg (Nat.not_lt.2 h)
  funext s
  simp [routePayload, hframe]

/-- A recognized payload is of the kind of its tag, whatever bits 12:11 of its header word and the bytes
after the tag (R76, R78). -/
theorem matchesKind_recognizedPayload (hr : BitVec 2) (k : Byte) (rest : List Byte) :
    MatchesKind k (recognizedPayload hr k rest) := by
  obtain ⟨b0, b1, hbytes, hmfr, hind, -⟩ := recognizedHeader_bytes hr
  rw [recognizedPayload, hbytes]
  exact ⟨by simp, (matches_kind_bytes k k b1 b0).2 ⟨hmfr, hind, rfl⟩⟩

/-- The fields of a recognized payload begin at offset 3 (R63). -/
theorem recognizedPayload_drop (hr : BitVec 2) (k : Byte) (rest : List Byte) :
    (recognizedPayload hr k rest).drop 3 = rest := rfl

/-- A recognized payload that is long enough for its kind is answered with the Message of its fields
(R130, R135). -/
theorem routePayload_decodes {k : Byte} {len : Nat} {fields : ProprietaryHeader → List Byte → Option Message}
    {rest : List Byte} {m : Message} (hr : BitVec 2) (s : State)
    (hdec : (k, decodeVariant k len fields) ∈ kindDecoders) (hmax : rest.length ≤ 5)
    (hlen : len ≤ 3 + rest.length) (hm : fields (expectedHeader k) rest = some m) :
    routePayload (recognizedPayload hr k rest) s = .next (respond (.ok (.message m)) s) := by
  have hkind := matchesKind_recognizedPayload hr k rest
  have hsize := recognizedPayload_length hr k rest
  have hparse : parseAny { payload := recognizedPayload hr k rest } = some m := calc
    _ = decodeVariant k len fields { payload := recognizedPayload hr k rest } :=
      parseAny_of_matchesKind _ hdec hkind
    _ = fields (expectedHeader k) ((recognizedPayload hr k rest).drop 3) :=
      decodeVariant_reads ⟨hkind, hsize.symm ▸ hlen⟩
    _ = some m := by rw [recognizedPayload_drop, hm]
  rw [routePayload_of_le (by omega), answerMessage, hparse, Option.map_some, answerOptional_some]

/-- A recognized payload of a kind other than 1 to 4 is answered `ABSENT` (R79, R80). -/
theorem routePayload_absent {k : Byte} {rest : List Byte} (hr : BitVec 2) (s : State)
    (hk : ¬ (1 ≤ k.toNat ∧ k.toNat ≤ 4)) (hmax : rest.length ≤ 5) :
    routePayload (recognizedPayload hr k rest) s = .next (respond .absent s) := by
  have hsize := recognizedPayload_length hr k rest
  have hnone := decoders_absent_of_other (fr := { payload := recognizedPayload hr k rest })
    (matchesKind_recognizedPayload hr k rest) hk
  rw [routePayload_of_le (by omega), answerMessage, parseAny_absent hnone, Option.map_none, answerOptional_none]

/-- Settles O45: each row is a recognized payload of its decoder's kind and long enough for it. -/
theorem payloadFormatsDecode : Obligations.PayloadFormatsDecode := by
  intro hr a b c d e r x s
  refine ⟨fun hx => ?_, fun hx => ?_, ?_, fun hx => ?_⟩
  · have hdec : (Config.kindSimpleAction, decodeSimpleAction) ∈ kindDecoders := by simp [kindDecoders]
    exact routePayload_decodes (len := 6) (rest := a :: b :: r :: x) hr s hdec (by simp; omega)
      (by simp; omega) rfl
  · have hdec : (Config.kindStateInfo, decodeStateInfo) ∈ kindDecoders := by simp [kindDecoders]
    exact routePayload_decodes (len := 7) (rest := a :: b :: c :: r :: x) hr s hdec (by simp; omega)
      (by simp; omega) rfl
  · have hdec : (Config.kindCustomHsb, decodeCustomHsb) ∈ kindDecoders := by simp [kindDecoders]
    exact routePayload_decodes (len := 8) (rest := [a, b, c, d, e]) hr s hdec (by simp) (by simp) rfl
  · have hdec : (Config.kindStartPattern, decodeStartPattern) ∈ kindDecoders := by simp [kindDecoders]
    exact routePayload_decodes (len := 6) (rest := a :: b :: r :: x) hr s hdec (by simp; omega)
      (by simp; omega) rfl

/-- Settles O46: each row is a recognized payload of a kind other than 1 to 4. -/
theorem payloadsWithoutDecoderAreAbsent : Obligations.PayloadsWithoutDecoderAreAbsent := by
  intro hr k x s hx
  have habsent {k' : Byte} (hk' : ¬ (1 ≤ k'.toNat ∧ k'.toNat ≤ 4)) := routePayload_absent hr s hk' hx
  exact ⟨habsent (by decide), habsent (by decide), habsent (by decide), habsent (by decide),
    habsent (by decide), habsent⟩

/-! ## Codes and words of the tables (R74, R82, R141) -/

/-- Settles O7: the decoder evaluated on each of the seven words. -/
theorem writtenWordsDecode : Obligations.WrittenWordsDecode := by
  refine ⟨?_, ?_, ?_, ?_, ?_, ?_, ?_⟩
  all_goals decide

/-- Settles O48: a request with an unassigned code decodes to one of the sixteen instructions, whose meaning
is to raise `IllegalOp`. -/
theorem unassignedCodesRaiseIllegalOp : Obligations.UnassignedCodesRaiseIllegalOp := by
  refine ⟨fun r s hop => congrFun (exec_decodeRequest_unassigned hop) s, fun s => ?_, fun s => ?_⟩
  · simp only [List.forall_mem_cons]
    exact ⟨rfl, rfl, rfl, rfl, rfl, rfl, rfl, rfl, rfl, rfl, rfl, rfl, rfl, rfl, rfl, rfl, by simp⟩
  · rw [responsePorts_respond, driveResponse_status]
    rfl

end Sys2Proof.Proofs
end

section
/-!
The identifier codec of spec/40_identifier_codec.md: the identifier that `BUILD_ID` builds and the fields that
`DECOMPOSE_ID` gives, as numbers (R90, R91).
-/

namespace Sys2Proof.Proofs

open Sys2Proof.Machine Sys2Proof.Laws

/-! ## The identifier built from the operands (R90) -/

/-- Masking is a remainder (R13, R71). -/
@[simp] theorem mask_toNat (w : Nat) (a : Arg) : (mask w a).toNat = a.toNat % 2 ^ w :=
  BitVec.toNat_setWidth w a

/-- The broadcast test as a number: the masked destination is 255 (R90). -/
theorem mask_eq_broadcast_iff (aDst : Arg) : mask 8 aDst = Config.broadcast ↔ aDst.toNat % 2 ^ 8 = 255 := by
  rw [← BitVec.toNat_inj, mask_toNat]
  rfl

/-- To all, the region is the protocol number as it stands (R61). -/
@[simp] theorem region_toAll (pn : ProtocolNumber) (dst : Byte) : region pn dst true = pn := rfl

/-- To one destination, the region is the high ten bits of the protocol number above the destination (R61). -/
theorem region_eq_append (pn : ProtocolNumber) (dst : Byte) :
    region pn dst false = pn.extractLsb' 8 10 ++ dst := by
  have hmask : ∀ i < 18, (0x3FF00#18).getLsbD i = decide (8 ≤ i) := by decide
  apply BitVec.eq_of_getLsbD_eq; intro i hi
  simp only [region, Bool.false_eq_true, if_false, BitVec.getLsbD_or, BitVec.getLsbD_and, hmask i hi,
    BitVec.getLsbD_setWidth, BitVec.getLsbD_append, BitVec.getLsbD_extractLsb']
  rcases Nat.lt_or_ge i 8 with h | h
  · simp [h, hi]
  · have hten : i - 8 < 10 := by omega
    simp [h, hten, Nat.not_lt.2 h]

/-- To one destination, that replaces the low byte of the protocol number (R90). -/
theorem region_toNat (pn : ProtocolNumber) (dst : Byte) :
    (region pn dst false).toNat = pn.toNat / 2 ^ 8 * 2 ^ 8 + dst.toNat := by
  rw [region_eq_append, toNat_append_eq_add, BitVec.extractLsb'_toNat, Nat.shiftRight_eq_div_pow]
  omega

/-- The region of the masked operands (R90). -/
theorem region_mask_toNat (aPn aDst : Arg) :
    (region (mask 18 aPn) (mask 8 aDst) (mask 8 aDst == Config.broadcast)).toNat =
      if aDst.toNat % 2 ^ 8 = 255 then aPn.toNat % 2 ^ 18
      else (aPn.toNat % 2 ^ 18) / 2 ^ 8 * 2 ^ 8 + aDst.toNat % 2 ^ 8 := by
  split_ifs with h
  · rw [beq_iff_eq.2 ((mask_eq_broadcast_iff aDst).2 h), region_toAll, mask_toNat]
  · rw [beq_eq_false_iff_ne.2 (mt (mask_eq_broadcast_iff aDst).1 h), region_toNat, mask_toNat, mask_toNat]

/-- The identifier of the operands as a number (R90). -/
theorem buildIdentifier_toNat (aPn aSrc aDst aPrio : Arg) :
    (buildIdentifier aPn aSrc aDst aPrio).toNat = (aPrio.toNat % 2 ^ 3) * 2 ^ 26 +
      (if aDst.toNat % 2 ^ 8 = 255 then aPn.toNat % 2 ^ 18
        else (aPn.toNat % 2 ^ 18) / 2 ^ 8 * 2 ^ 8 + aDst.toNat % 2 ^ 8) * 2 ^ 8 + aSrc.toNat % 2 ^ 8 := by
  rw [buildIdentifier_eq, joinIdentifier_toNat, region_mask_toNat, mask_toNat, mask_toNat]

/-- `BUILD_ID` answers with the identifier of its operands (R90). -/
theorem buildId_answers (aPn aSrc aDst aPrio : Arg) (s : State) :
    Answers (.buildId aPn aSrc aDst aPrio) s (.ok (.identifier (buildIdentifier aPn aSrc aDst aPrio))) :=
  returnOk_eq _ s

/-- Settles O13: the identifier is `buildIdentifier` of the operands, as the number of
`buildIdentifier_toNat`. -/
theorem buildIdResult : Obligations.BuildIdResult := by
  refine ⟨fun r hop => congrArg Except.ok (decodeRequest_op00 hop), fun aPn aSrc aDst aPrio s => ?_⟩
  exact ⟨buildIdentifier aPn aSrc aDst aPrio, buildId_answers aPn aSrc aDst aPrio s, rfl,
    buildIdentifier_toNat aPn aSrc aDst aPrio⟩

/-! ## The fields of an identifier (R91) -/

/-- The priority is what stands above bit 25. -/
theorem idPriority_toNat (id : Identifier) : (idPriority id).toNat = id.toNat / 2 ^ 26 := by
  rw [idPriority, BitVec.extractLsb'_toNat, Nat.shiftRight_eq_div_pow]
  omega

/-- The raw region is the 18 bits from bit 8. -/
theorem idRegion_toNat (id : Identifier) : (idRegion id).toNat = id.toNat / 2 ^ 8 % 2 ^ 18 := by
  rw [idRegion, BitVec.extractLsb'_toNat, Nat.shiftRight_eq_div_pow]

/-- The source is the low byte. -/
theorem idSource_toNat (id : Identifier) : (idSource id).toNat = id.toNat % 2 ^ 8 := by
  rw [idSource, BitVec.extractLsb'_toNat, Nat.shiftRight_zero]

/-- `DECOMPOSE_ID` answers with the three fields of the identifier (R91). -/
theorem decomposeId_answers (id : Identifier) (s : State) :
    Answers (.decomposeId id) s (.ok (.parts (idPriority id) (idRegion id) (idSource id))) :=
  returnOk_eq _ s

/-- Settles O14: the parts are the three fields of the identifier, each on its own port. -/
theorem decomposeIdResult : Obligations.DecomposeIdResult := by
  refine ⟨fun r hop => congrArg Except.ok (decodeRequest_op01 hop), fun id s => ?_⟩
  exact ⟨idPriority id, idRegion id, idSource id, decomposeId_answers id s, rfl, rfl, rfl,
    idPriority_toNat id, idRegion_toNat id, idSource_toNat id⟩

end Sys2Proof.Proofs
end

section
/-!
The header codec of spec/41_header_codec.md: the two bytes that `PACK_HDR` gives and the two codes that
`UNPACK_HDR` gives, as numbers (R100, R101).
-/

namespace Sys2Proof.Proofs

open Sys2Proof.Machine Sys2Proof.Laws

/-! ## The header word as a number (R42, R100) -/

/-- The word of two bytes is little-endian (R42). -/
theorem wordOfBytes_toNat (b0 b1 : Byte) : (wordOfBytes b0 b1).toNat = b0.toNat + b1.toNat * 2 ^ 8 := by
  rw [wordOfBytes, toNat_append_eq_add, Nat.add_comm]

/-- The two bytes of a word are the number of the word, low byte first (R42). -/
theorem extract_bytes_toNat (w : HeaderWord) :
    (w.extractLsb' 0 8).toNat + (w.extractLsb' 8 8).toNat * 2 ^ 8 = w.toNat := by
  rw [← wordOfBytes_toNat, wordOfBytes_extract]

/-- The word of the masked operands has nothing in bits 12:11 (R78, R100). -/
theorem packHeaderWord_toNat (aMfr aInd : Arg) :
    (packHeaderWord aMfr aInd).toNat = aMfr.toNat % 2 ^ 11 + (aInd.toNat % 2 ^ 3) * 2 ^ 13 := by
  have hreserved : (0 : BitVec 2).toNat = 0 := rfl
  rw [packHeaderWord, joinHeaderWord_toNat, mask_toNat, mask_toNat, hreserved, Nat.zero_mul, Nat.add_zero]

/-! ## Packing (R100) -/

/-- `PACK_HDR` answers with the two bytes of the word of its operands (R100). -/
theorem packHdr_answers (aMfr aInd : Arg) (s : State) :
    Answers (.packHdr aMfr aInd) s (.ok (.headerBytes ((packHeaderWord aMfr aInd).extractLsb' 0 8)
      ((packHeaderWord aMfr aInd).extractLsb' 8 8))) :=
  returnOk_eq _ s

/-- Settles O20: the two bytes are those of the word of the masked operands, and together its number. -/
theorem packHdrResult : Obligations.PackHdrResult := by
  refine ⟨fun r hop => congrArg Except.ok (decodeRequest_op02 hop), fun aMfr aInd s => ?_⟩
  exact ⟨_, _, packHdr_answers aMfr aInd s, rfl, rfl, rfl,
    (extract_bytes_toNat _).trans (packHeaderWord_toNat aMfr aInd)⟩

/-! ## Unpacking (R101) -/

/-- The manufacturer code is the low eleven bits of the word. -/
theorem headerManufacturer_toNat (w : HeaderWord) : (headerManufacturer w).toNat = w.toNat % 2 ^ 11 := by
  rw [headerManufacturer, BitVec.extractLsb'_toNat, Nat.shiftRight_zero]

/-- The industry code is what stands above bit 12 of the word. -/
theorem headerIndustry_toNat (w : HeaderWord) : (headerIndustry w).toNat = w.toNat / 2 ^ 13 := by
  rw [headerIndustry, BitVec.extractLsb'_toNat, Nat.shiftRight_eq_div_pow]
  omega

/-- Fewer than two bytes are answered with the fault (R101). -/
theorem answerUnpack_short {b : List Byte} (h : b.length < 2) : answerUnpack b = raise .malformedHeader := by
  funext s
  simp only [answerUnpack, unpackHeader_short h]

/-- Two bytes or more are answered with the codes of the word of the first two (R101). -/
theorem answerUnpack_cons (b0 b1 : Byte) (rest : List Byte) :
    answerUnpack (b0 :: b1 :: rest) =
      returnOk (.codes (headerManufacturer (wordOfBytes b0 b1)) (headerIndustry (wordOfBytes b0 b1))) := by
  funext s
  simp only [answerUnpack, unpackHeader_cons]

/-- A byte count below 2 is a malformed header, whatever stands on the lanes (R101). -/
theorem unpackHdr_answers_short {n : Len} (b0 b1 : Byte) (s : State) (h : n.toNat < 2) :
    Answers (.unpackHdr n b0 b1) s (.fault .malformedHeader) := by
  have hshort : ([b0, b1].take n.toNat).length < 2 := (List.length_take_le _ _).trans_lt h
  change answerUnpack ([b0, b1].take n.toNat) s = _
  rw [answerUnpack_short hshort, raise_eq]

/-- From a byte count of 2 on, `UNPACK_HDR` answers with the two codes of the word of the first two bytes
(R101). -/
theorem unpackHdr_answers {n : Len} (b0 b1 : Byte) (s : State) (h : 2 ≤ n.toNat) :
    Answers (.unpackHdr n b0 b1) s
      (.ok (.codes (headerManufacturer (wordOfBytes b0 b1)) (headerIndustry (wordOfBytes b0 b1)))) := by
  have hfull : [b0, b1].take n.toNat = [b0, b1] := List.take_of_length_le h
  change answerUnpack ([b0, b1].take n.toNat) s = _
  rw [hfull, answerUnpack_cons, returnOk_eq]

/-- Settles O21: by the byte count; from 2 on the codes are the two fields of the word of the bytes, each on
its own port. -/
theorem unpackHdrResult : Obligations.UnpackHdrResult := by
  refine ⟨fun r hop => congrArg Except.ok (decodeRequest_op03 hop), fun n b0 b1 s => ⟨?_, fun h => ?_⟩⟩
  · exact unpackHdr_answers_short b0 b1 s
  · refine ⟨_, _, unpackHdr_answers b0 b1 s h, rfl, rfl, ?_, ?_⟩
    · rw [headerManufacturer_toNat, wordOfBytes_toNat]
    · rw [headerIndustry_toNat, wordOfBytes_toNat]

end Sys2Proof.Proofs
end

section
/-!
The operations of spec/42_frame_and_validator.md on the Frame of the operand ports: making it, recognizing
it and reading its kind (R110 to R113).
-/

namespace Sys2Proof.Proofs

open Sys2Proof.Machine Sys2Proof.Laws

/-! ## Where there is no Frame (R110, R111) -/

/-- Each of the seven operations that answer from a Frame's payload constructs the Frame first (R111). -/
theorem payloadOp_answers_constructionError {f : OperandFrame} (s : State) (h : 8 < f.fLen.toNat) :
    ∀ q ∈ payloadOps, Answers (q.2 f) s (.fault .constructionError) := by
  refine forall_payloadOps (P := fun _ c => Answers (c f) s (.fault .constructionError)).2
    ⟨?_, ?_, ?_, ?_, ?_, ?_, ?_⟩
  all_goals exact withFrame_of_gt _ s h

/-- Settles O25: the seven facts of `payloadOp_answers_constructionError`. -/
theorem frameConstructedFirst : Obligations.FrameConstructedFirst := fun f s h =>
  (forall_payloadOps (P := fun _ c => Answers (c f) s (.fault .constructionError))).1
    (payloadOp_answers_constructionError s h)

/-! ## The bytes of the operand payload (R35) -/

/-- Below the length port, the payload is the lanes. -/
theorem operandPayload_getElem? {f : OperandFrame} {i : Nat} (h : i < f.fLen.toNat) :
    (operandPayload f)[i]? = (lanesToList f.fData)[i]? :=
  List.getElem?_take_of_lt h

/-- The kind tag of a payload of at least 3 bytes is lane 2. -/
theorem operandPayload_kindTag {f : OperandFrame} (h : 3 ≤ (operandPayload f).length) :
    (operandPayload f)[2]? = some f.fData.d2 := by
  have hlen : (operandPayload f).length ≤ f.fLen.toNat := List.length_take_le _ _
  rw [operandPayload_getElem? (by omega)]
  rfl

/-- The length of the operand payload, put back on a length port, is the operand's (R35). -/
theorem ofNat_operandPayload_length {f : OperandFrame} (h : f.fLen.toNat ≤ 8) :
    BitVec.ofNat 4 (operandPayload f).length = f.fLen := by
  rw [operandPayload_length h, BitVec.ofNat_toNat, BitVec.setWidth_eq]

/-! ## Making a Frame (R110) -/

/-- Up to 8 bytes `MAKE_FRAME` answers with the Frame of the ports (R110). -/
theorem makeFrame_answers {f : OperandFrame} (s : State) (h : f.fLen.toNat ≤ 8) :
    Answers (.makeFrame f) s (.ok (.frame ⟨f.fId, operandPayload f, f.fPrio, f.fSrc, f.fDst⟩)) :=
  withFrame_of_le _ s h

/-- Settles O24: the payload is `operandPayload f`, and the ports carry it by the lemmas of R35. -/
theorem makeFrameResult : Obligations.MakeFrameResult := by
  refine ⟨fun r hop => congrArg Except.ok (decodeRequest_op04 hop), fun f s =>
    ⟨fun h => withFrame_of_gt _ s h, fun h => ?_⟩⟩
  have hlen : (operandPayload f).length = f.fLen.toNat := operandPayload_length h
  have hlanes := lanesToList_lanesOfPayload (hlen.trans_le h)
  rw [hlen] at hlanes
  exact ⟨operandPayload f, makeFrame_answers s h, hlen, fun i hi => operandPayload_getElem? hi,
    rfl, ofNat_operandPayload_length h, rfl, rfl, rfl, hlanes⟩

/-! ## The validator (R112, R113) -/

/-- `IS_RECOGNIZED` answers with the recognition pattern (R76, R112). -/
theorem isRecognized_answers {f : OperandFrame} (s : State) (h : f.fLen.toNat ≤ 8) :
    Answers (.isRecognized f) s (.ok (.recognized (decide (MatchesRecognized (operandPayload f))))) := by
  refine (withFrame_of_le _ s h).trans ?_
  rw [isRecognized_eq_matches, returnOk_eq]

/-- Settles O26: above 8 bytes there is no Frame, up to 8 the answer is the pattern. -/
theorem isRecognizedResult : Obligations.IsRecognizedResult := by
  have hop : (0x05, Instr.isRecognized) ∈ payloadOps := by simp [payloadOps]
  exact ⟨fun r h => congrArg Except.ok (decodeRequest_payloadOp _ hop r h),
    fun _ s h => payloadOp_answers_constructionError s h _ hop,
    fun _ s h => isRecognized_answers s h, fun _ _ => rfl⟩

/-- `KIND_OF` answers with lane 2 for a recognized payload (R113). -/
theorem kindOf_answers_kind {f : OperandFrame} (s : State) (h : f.fLen.toNat ≤ 8)
    (hrec : MatchesRecognized (operandPayload f)) : Answers (.kindOf f) s (.ok (.kind f.fData.d2)) := by
  have hkind : MatchesKind f.fData.d2 (operandPayload f) :=
    (matchesKind_iff_recognized _ _).2 ⟨hrec, operandPayload_kindTag hrec.1⟩
  refine (withFrame_of_le _ s h).trans ?_
  rw [(kindOf_eq_some_iff _ _).2 hkind, Option.map_some, answerOptional_some]

/-- `KIND_OF` is absent for a payload that is not recognized (R113). -/
theorem kindOf_answers_absent {f : OperandFrame} (s : State) (h : f.fLen.toNat ≤ 8)
    (hrec : ¬ MatchesRecognized (operandPayload f)) : Answers (.kindOf f) s .absent := by
  refine (withFrame_of_le _ s h).trans ?_
  rw [(kindOf_eq_none_iff _).2 hrec, Option.map_none, answerOptional_none]

/-- Settles O27: above 8 bytes there is no Frame, up to 8 the answer is by recognition. -/
theorem kindOfResult : Obligations.KindOfResult := by
  have hop : (0x06, Instr.kindOf) ∈ payloadOps := by simp [payloadOps]
  exact ⟨fun r h => congrArg Except.ok (decodeRequest_payloadOp _ hop r h),
    fun _ s h => payloadOp_answers_constructionError s h _ hop,
    fun _ s h => ⟨kindOf_answers_kind s h, kindOf_answers_absent s h⟩, fun _ _ => rfl⟩

end Sys2Proof.Proofs
end

section
/-!
The message encoders of spec/43_message_encoders.md: the Frame of each (R121 to R124), and the agreement of a
Frame with its identifier (R120).
-/

namespace Sys2Proof.Proofs

open Sys2Proof.Machine Sys2Proof.Laws

/-! ## The Frame of an encoder (R120) -/

/-- The header word of the two constants, as payload bytes (R6, R103). -/
theorem packHeader_constants : packHeader mfrOperand indOperand = [0xE8, 0x85] := rfl

/-- Masking is reading the operand's number at the field's width (R13, R71). -/
theorem mask_eq_ofNat (w : Nat) (a : Arg) : mask w a = BitVec.ofNat w a.toNat :=
  (BitVec.ofNat_toNat w a).symm

/-- The Frame that an encoder returns, written out (R120). -/
theorem encodeFrame_eq (kind : Byte) (aSrc aDst : Arg) (fields : List Arg) (reserved : Bool) :
    encodeFrame kind aSrc aDst fields reserved =
      ⟨buildIdentifier 61184 aSrc aDst 6,
        [0xE8, 0x85, kind] ++ fields.map (fun a => BitVec.ofNat 8 a.toNat) ++ (if reserved then [0] else []),
        6, BitVec.ofNat 8 aSrc.toNat, BitVec.ofNat 8 aDst.toNat⟩ := by
  simp only [encodeFrame, encodePayload_eq, packHeader_constants, ← mask_eq_ofNat]
  rfl

/-- `ENC_SIMPLE_ACTION` answers with the Frame of its two fields and a reserved byte (R121). -/
theorem encSimpleAction_answers (aSrc aDst a sw : Arg) (s : State) :
    Answers (.encSimpleAction aSrc aDst a sw) s (.ok (.frame (encodeFrame 1 aSrc aDst [a, sw] true))) :=
  returnOk_eq _ s

/-- `ENC_STATE_INFO` answers with the Frame of its three fields and a reserved byte, to all (R122). -/
theorem encStateInfo_answers (aSrc sw st ty : Arg) (s : State) :
    Answers (.encStateInfo aSrc sw st ty) s (.ok (.frame (encodeFrame 2 aSrc 255 [sw, st, ty] true))) :=
  returnOk_eq _ s

/-- `ENC_CUSTOM_HSB` answers with the Frame of its five fields and no reserved byte (R123). -/
theorem encCustomHsb_answers (aSrc aDst a sw h sa b : Arg) (s : State) :
    Answers (.encCustomHsb aSrc aDst a sw h sa b) s
      (.ok (.frame (encodeFrame 3 aSrc aDst [a, sw, h, sa, b] false))) :=
  returnOk_eq _ s

/-- `ENC_START_PATTERN` answers with the Frame of its two fields and a reserved byte (R124). -/
theorem encStartPattern_answers (aSrc aDst sw p : Arg) (s : State) :
    Answers (.encStartPattern aSrc aDst sw p) s (.ok (.frame (encodeFrame 4 aSrc aDst [sw, p] true))) :=
  returnOk_eq _ s

/-- The identifier of `ENC_STATE_INFO`: to all, the bits 15:8 are those of the protocol number (R122). -/
theorem buildIdentifier_broadcast (aSrc : Arg) :
    buildIdentifier 61184 aSrc 255 6 = 0x18EF0000#29 ||| (BitVec.ofNat 8 aSrc.toNat).setWidth 29 := by
  rw [← mask_eq_ofNat]
  rfl

/-- Settles O30: `encodeFrame_eq` of the two fields and the reserved byte. -/
theorem encSimpleActionResult : Obligations.EncSimpleActionResult := by
  refine ⟨fun r hop => congrArg Except.ok (decodeRequest_op09 hop), fun aSrc aDst a sw s => ?_⟩
  have hframe := encSimpleAction_answers aSrc aDst a sw s
  rw [encodeFrame_eq] at hframe
  exact ⟨_, buildId_answers 61184 aSrc aDst 6 s, hframe⟩

/-- Settles O31: `encodeFrame_eq` to 255 in place of a destination operand, and `buildIdentifier_broadcast`. -/
theorem encStateInfoResult : Obligations.EncStateInfoResult := by
  refine ⟨fun r hop => congrArg Except.ok (decodeRequest_op0A hop), fun aSrc sw st ty s => ?_⟩
  have hframe := encStateInfo_answers aSrc sw st ty s
  rw [encodeFrame_eq] at hframe
  rw [← buildIdentifier_broadcast]
  exact ⟨buildId_answers 61184 aSrc 255 6 s, hframe⟩

/-- Settles O32: `encodeFrame_eq` of the five fields. -/
theorem encCustomHsbResult : Obligations.EncCustomHsbResult := by
  refine ⟨fun r hop => congrArg Except.ok (decodeRequest_op0B hop), fun aSrc aDst a sw h sa b s => ?_⟩
  have hframe := encCustomHsb_answers aSrc aDst a sw h sa b s
  rw [encodeFrame_eq] at hframe
  exact ⟨_, buildId_answers 61184 aSrc aDst 6 s, hframe⟩

/-- Settles O33: `encodeFrame_eq` of the switch and the pattern, in this order, and the reserved byte. -/
theorem encStartPatternResult : Obligations.EncStartPatternResult := by
  refine ⟨fun r hop => congrArg Except.ok (decodeRequest_op0C hop), fun aSrc aDst sw p s => ?_⟩
  have hframe := encStartPattern_answers aSrc aDst sw p s
  rw [encodeFrame_eq] at hframe
  exact ⟨_, buildId_answers 61184 aSrc aDst 6 s, hframe⟩

/-! ## The Frame agrees with its identifier (R120) -/

/-- An instruction has one answer in a state. -/
theorem answers_unique {i : Instr} {s : State} {r r' : Response} (h : Answers i s r) (h' : Answers i s r') :
    r = r' :=
  respond_injective (Host.Outcome.next.inj (h.symm.trans h'))

/-- The bits 15:8 of an identifier are the low byte of its region (R60). -/
theorem joinIdentifier_destination (p : Priority) (n : ProtocolNumber) (src : Byte) :
    (joinIdentifier p n src).extractLsb' 8 8 = n.extractLsb' 0 8 := by
  rw [joinIdentifier_eq_append, BitVec.extractLsb'_append_eq_of_le (by decide),
    BitVec.extractLsb'_append_eq_of_add_le (by decide)]

/-- The bits 15:8 of an encoder's identifier are its destination, or 0 where that is 255 (R120). -/
theorem buildIdentifier_destination (aSrc aDst : Arg) :
    (buildIdentifier 61184 aSrc aDst 6).extractLsb' 8 8 = mask 8 aDst ∨
      mask 8 aDst = 255#8 ∧ (buildIdentifier 61184 aSrc aDst 6).extractLsb' 8 8 = 0#8 := by
  rw [buildIdentifier_eq, joinIdentifier_destination]
  by_cases h : mask 8 aDst = Config.broadcast
  · rw [beq_iff_eq.2 h, region_toAll]
    exact .inr ⟨h, rfl⟩
  · rw [beq_eq_false_iff_ne.2 h, region_eq_append]
    exact .inl BitVec.extractLsb'_append_eq_right

/-- The payload of a Frame presented on the operand ports is that of the Frame (R35, R49). -/
theorem operandPayload_presentFrame {fr : Frame} (h : fr.payload.length ≤ 8) :
    operandPayload (presentFrame fr) = fr.payload := by
  have hlen : (presentFrame fr).fLen.toNat = fr.payload.length := by
    simp [presentFrame]; omega
  rw [operandPayload, hlen, presentFrame, lanesToList_lanesOfPayload h, List.take_left]

/-- `MAKE_FRAME` of a Frame presented again gives it back (R110). -/
theorem makeFrame_presentFrame {fr : Frame} (s : State) (h : fr.payload.length ≤ 8) :
    Answers (.makeFrame (presentFrame fr)) s (.ok (.frame fr)) := by
  have hlen : (presentFrame fr).fLen.toNat ≤ 8 := by
    simp [presentFrame]; omega
  have hmade := makeFrame_answers s hlen
  rwa [operandPayload_presentFrame h] at hmade

/-- The length of an encoder's payload (R120). -/
theorem encodeFrame_payload_length (kind : Byte) (aSrc aDst : Arg) (fields : List Arg) (reserved : Bool) :
    (encodeFrame kind aSrc aDst fields reserved).payload.length = 3 + fields.length + reserved.toNat := by
  cases reserved <;> simp [encodeFrame_eq] <;> omega

/-- Every encoder answers with a Frame of R120, of three to five bytes after the kind tag. -/
theorem encoder_answers_encodeFrame {i : Instr} {aSrc aDst a b c d e : Arg} (s : State)
    (hi : i ∈ [Instr.encSimpleAction aSrc aDst a b, .encStateInfo aSrc a b c,
      .encCustomHsb aSrc aDst a b c d e, .encStartPattern aSrc aDst a b]) :
    ∃ (kind : Byte) (dst : Arg) (fields : List Arg) (reserved : Bool),
      3 ≤ fields.length + reserved.toNat ∧ fields.length + reserved.toNat ≤ 5 ∧
      Answers i s (.ok (.frame (encodeFrame kind aSrc dst fields reserved))) := by
  simp only [List.mem_cons, List.not_mem_nil, or_false] at hi
  rcases hi with rfl | rfl | rfl | rfl
  · exact ⟨1, aDst, [a, b], true, by simp, by simp, encSimpleAction_answers aSrc aDst a b s⟩
  · exact ⟨2, 255, [a, b, c], true, by simp, by simp, encStateInfo_answers aSrc a b c s⟩
  · exact ⟨3, aDst, [a, b, c, d, e], false, by simp, by simp, encCustomHsb_answers aSrc aDst a b c d e s⟩
  · exact ⟨4, aDst, [a, b], true, by simp, by simp, encStartPattern_answers aSrc aDst a b s⟩

/-- Settles O34: the Frame is an `encodeFrame`, whose identifier is placed from its own priority, destination
and source, and whose payload is short enough to be presented again. -/
theorem encodedFrameIsConsistent : Obligations.EncodedFrameIsConsistent := by
  rintro fr s i ⟨aSrc, aDst, a, b, c, d, e, hi⟩ hfr
  obtain ⟨kind, dst, fields, reserved, hmin, hmax, henc⟩ := encoder_answers_encodeFrame s hi
  cases answers_unique hfr henc
  have hlen := encodeFrame_payload_length kind aSrc dst fields reserved
  refine ⟨rfl, idPriority_joinIdentifier _ _ _, idSource_joinIdentifier _ _ _,
    buildIdentifier_destination aSrc dst, ?_, by omega, by omega, makeFrame_presentFrame s (by omega)⟩
  rw [encodeFrame_eq]
  rfl

end Sys2Proof.Proofs
end

section
/-!
The message decoders of spec/44_message_decoders_dispatch.md: what each of the four answers to a Frame (R130
to R134).
-/

namespace Sys2Proof.Proofs

open Sys2Proof.Machine Sys2Proof.Laws

/-! ## The answer of a decoder (R130) -/

/-- The bytes of the operand payload from offset 3 on are lanes 3 to 7, up to the length port (R35, R63). -/
theorem operandPayload_drop (f : OperandFrame) : (operandPayload f).drop 3 =
    [f.fData.d3, f.fData.d4, f.fData.d5, f.fData.d6, f.fData.d7].take (f.fLen.toNat - 3) := by
  rw [operandPayload, List.drop_take]
  rfl

section
variable {k : Byte} {len : Nat} {fields : ProprietaryHeader → List Byte → Option Message} {f : OperandFrame}

/-- A decoder answers the Message of its fields to a payload of its kind and length (R130). -/
theorem withFrame_decodeVariant_ok {m : Message} (s : State) (hle : f.fLen.toNat ≤ 8)
    (hk : MatchesKind k (operandPayload f) ∧ len ≤ f.fLen.toNat)
    (hm : fields (expectedHeader k) ((operandPayload f).drop 3) = some m) :
    withFrame f (answerMessage (decodeVariant k len fields)) s =
      .next (respond (.ok (.message m)) s) := by
  rw [← operandPayload_length hle] at hk
  rw [withFrame_of_le _ s hle, answerMessage, decodeVariant_reads hk, hm, Option.map_some,
    answerOptional_some]

/-- A decoder answers `ABSENT` to a payload of another kind or of too few bytes (R130). -/
theorem withFrame_decodeVariant_absent (s : State) (hle : f.fLen.toNat ≤ 8)
    (hk : ¬ (MatchesKind k (operandPayload f) ∧ len ≤ f.fLen.toNat)) :
    withFrame f (answerMessage (decodeVariant k len fields)) s = .next (respond .absent s) := by
  rw [← operandPayload_length hle] at hk
  exact withFrame_answerMessage_absent s hle (decodeVariant_absent hk)

end

/-- What R131 to R134 say of a decoder with select code `op`: the construction error where there is no Frame,
the Message `msg` of the lanes for kind `k` and at least `len` bytes, `ABSENT` for the rest. -/
def DecoderResult (op : OpCode) (c : OperandFrame → Instr) (k : Byte) (len : Nat) (msg : Lanes → Message) :
    Prop :=
  (∀ r : Request, r.op = op → decode (.request r) = .ok (c r.f)) ∧
  (∀ (f : OperandFrame) (s : State), 8 < f.fLen.toNat → Answers (c f) s (.fault .constructionError)) ∧
  ∀ (f : OperandFrame) (s : State), f.fLen.toNat ≤ 8 →
    (MatchesKind k (operandPayload f) ∧ len ≤ f.fLen.toNat →
      Answers (c f) s (.ok (.message (msg f.fData)))) ∧
    (¬ (MatchesKind k (operandPayload f) ∧ len ≤ f.fLen.toNat) → Answers (c f) s .absent)

/-- An operation that runs `decodeVariant` on its operand frame is such a decoder, if from `len` bytes on its
fields are lanes of the frame. -/
theorem decoderResult_of_decodeVariant {op : OpCode} {c : OperandFrame → Instr} {k : Byte} {len : Nat}
    {fields : ProprietaryHeader → List Byte → Option Message} {msg : Lanes → Message}
    (hop : (op, c) ∈ payloadOps)
    (hexec : ∀ f, exec (c f) = withFrame f (answerMessage (decodeVariant k len fields)))
    (hfields : ∀ (l : Lanes) (n : Nat),
      fields (expectedHeader k) ([l.d3, l.d4, l.d5, l.d6, l.d7].take (n + (len - 3))) = some (msg l)) :
    DecoderResult op c k len msg := by
  refine ⟨fun r h => congrArg Except.ok (decodeRequest_payloadOp _ hop r h),
    fun f s h => payloadOp_answers_constructionError s h _ hop, fun f s hle => ?_⟩
  simp only [Answers, hexec]
  refine ⟨fun hk => withFrame_decodeVariant_ok s hle hk ?_, withFrame_decodeVariant_absent s hle⟩
  obtain ⟨n, hn⟩ := Nat.exists_eq_add_of_le' (Nat.sub_le_sub_right hk.2 3)
  rw [operandPayload_drop, hn, hfields]

/-! ## The four decoders (R131 to R134) -/

/-- Settles O38: from 6 bytes on the payload has bytes 3 and 4. -/
theorem decSimpleActionResult : Obligations.DecSimpleActionResult :=
  decoderResult_of_decodeVariant (fields := fieldsSimpleAction)
    (msg := fun l => .simpleAction ⟨1512, 4, 1⟩ l.d3 l.d4)
    (by simp [payloadOps]) (fun _ => rfl) fun _ _ => rfl

/-- Settles O39: from 7 bytes on the payload has bytes 3 to 5. -/
theorem decStateInfoResult : Obligations.DecStateInfoResult :=
  decoderResult_of_decodeVariant (fields := fieldsStateInfo)
    (msg := fun l => .stateInfo ⟨1512, 4, 2⟩ l.d3 l.d4 l.d5)
    (by simp [payloadOps]) (fun _ => rfl) fun _ _ => rfl

/-- Settles O40: from 8 bytes on the payload has bytes 3 to 7. -/
theorem decCustomHsbResult : Obligations.DecCustomHsbResult :=
  decoderResult_of_decodeVariant (fields := fieldsCustomHsb)
    (msg := fun l => .customHsb ⟨1512, 4, 3⟩ l.d3 l.d4 l.d5 l.d6 l.d7)
    (by simp [payloadOps]) (fun _ => rfl) fun _ _ => rfl

/-- Settles O41: from 6 bytes on the payload has bytes 3 and 4. -/
theorem decStartPatternResult : Obligations.DecStartPatternResult :=
  decoderResult_of_decodeVariant (fields := fieldsStartPattern)
    (msg := fun l => .startPattern ⟨1512, 4, 4⟩ l.d3 l.d4)
    (by simp [payloadOps]) (fun _ => rfl) fun _ _ => rfl

end Sys2Proof.Proofs
end

section
/-!
The dispatcher of spec/44_message_decoders_dispatch.md: `PARSE_ANY` by the kind of the payload (R135), its
agreement with the four decoders and with `KIND_OF` (R136), and its answer to a bare payload (log entries 3
and 7).
-/

namespace Sys2Proof.Proofs

open Sys2Proof.Machine Sys2Proof.Laws

/-! ## The dispatcher runs the decoder of the kind (R135) -/

/-- The four decoding operations with the kinds they decode (R75). -/
def decoderOps : List (Byte × (OperandFrame → Instr)) :=
  [(1, .decSimpleAction), (2, .decStateInfo), (3, .decCustomHsb), (4, .decStartPattern)]

/-- A fact about each decoding operation is four facts. -/
theorem forall_decoderOps {P : Byte → (OperandFrame → Instr) → Prop} :
    (∀ q ∈ decoderOps, P q.1 q.2) ↔
      P 1 .decSimpleAction ∧ P 2 .decStateInfo ∧ P 3 .decCustomHsb ∧ P 4 .decStartPattern := by
  simp [decoderOps]

/-- A decoding operation answers with the decoder of its kind. -/
theorem exec_decoderOp : ∀ q ∈ decoderOps, ∃ d, (q.1, d) ∈ kindDecoders ∧
    ∀ f, exec (q.2 f) = withFrame f (answerMessage d) := by
  refine forall_decoderOps (P := fun k c => ∃ d, (k, d) ∈ kindDecoders ∧
    ∀ f, exec (c f) = withFrame f (answerMessage d)).2 ⟨?_, ?_, ?_, ?_⟩
  · exact ⟨decodeSimpleAction, by simp [kindDecoders], fun _ => rfl⟩
  · exact ⟨decodeStateInfo, by simp [kindDecoders], fun _ => rfl⟩
  · exact ⟨decodeCustomHsb, by simp [kindDecoders], fun _ => rfl⟩
  · exact ⟨decodeStartPattern, by simp [kindDecoders], fun _ => rfl⟩

/-- Every kind of 1 to 4 has a decoding operation (R75). -/
theorem exists_decoderOp {k : Byte} (hk : 1 ≤ k.toNat ∧ k.toNat ≤ 4) : ∃ c, (k, c) ∈ decoderOps := by
  have hkind : k = 1 ∨ k = 2 ∨ k = 3 ∨ k = 4 := by bv_omega
  rcases hkind with rfl | rfl | rfl | rfl
  all_goals simp [decoderOps]

/-- `PARSE_ANY` answers with the dispatcher (R135). -/
theorem exec_parseAny (f : OperandFrame) : exec (.parseAny f) = withFrame f (answerMessage parseAny) := rfl

/-- `PARSE_ANY` is executed as the decoder of the payload's kind (R135). -/
theorem exec_parseAny_of_matchesKind {f : OperandFrame} (s : State) :
    ∀ q ∈ decoderOps, MatchesKind q.1 (operandPayload f) → exec (.parseAny f) s = exec (q.2 f) s := by
  intro q hq hk
  obtain ⟨d, hd, hexec⟩ := exec_decoderOp q hq
  rw [exec_parseAny, hexec]
  rcases Nat.lt_or_ge 8 f.fLen.toNat with hlen | hle
  · rw [withFrame_of_gt _ s hlen, withFrame_of_gt _ s hlen]
  · rw [withFrame_of_le _ s hle, withFrame_of_le _ s hle, answerMessage, answerMessage,
      parseAny_of_matchesKind _ hd hk]

/-- `PARSE_ANY` is `ABSENT` for a payload of no kind that has a decoder (R135). -/
theorem parseAny_answers_absent {f : OperandFrame} (s : State) (hle : f.fLen.toNat ≤ 8)
    (h : ∀ k : Byte, 1 ≤ k.toNat ∧ k.toNat ≤ 4 → ¬ MatchesKind k (operandPayload f)) :
    Answers (.parseAny f) s .absent := by
  refine withFrame_answerMessage_absent s hle (parseAny_absent fun d hd => ?_)
  obtain ⟨q, hq, rfl⟩ := List.mem_map.1 (show d ∈ kindDecoders.map Prod.snd from hd)
  exact kindDecoders_absent q hq (h q.1 (not_not.1 fun hk => kind_ne_of_other hk q hq rfl))

/-- Settles O42: the decoder of the kind is run, and where no kind of 1 to 4 matches, none is. -/
theorem parseAnyDispatches : Obligations.ParseAnyDispatches := by
  have hop : (0x07, Instr.parseAny) ∈ payloadOps := by simp [payloadOps]
  refine ⟨fun r h => congrArg Except.ok (decodeRequest_payloadOp _ hop r h),
    fun f s h => payloadOp_answers_constructionError s h _ hop, fun f s hle => ?_⟩
  obtain ⟨h1, h2, h3, h4⟩ := (forall_decoderOps (P := fun k c =>
    MatchesKind k (operandPayload f) → exec (.parseAny f) s = exec (c f) s)).1
      (exec_parseAny_of_matchesKind s)
  exact ⟨h1, h2, h3, h4, parseAny_answers_absent s hle⟩

/-! ## At most one decoder answers (R136) -/

/-- An operation on a Frame that does not raise a construction error has a Frame (R111). -/
theorem fLen_le_of_withFrame {f : OperandFrame} {k : Frame → State → StepOutcome} {s : State} {r : Response}
    (h : withFrame f k s = .next (respond r s)) (hr : r ≠ .fault .constructionError) : f.fLen.toNat ≤ 8 :=
  Nat.le_of_not_lt fun hlen =>
    hr (respond_injective (Host.Outcome.next.inj (h.symm.trans (withFrame_of_gt k s hlen))))

/-- A decoder is `OK` only for a payload of its kind (R130). -/
theorem matchesKind_of_decoderOp_ok {f : OperandFrame} {s : State} {v : Result} :
    ∀ q ∈ decoderOps, Answers (q.2 f) s (.ok v) → MatchesKind q.1 (operandPayload f) := by
  intro q hq h
  obtain ⟨d, hd, hexec⟩ := exec_decoderOp q hq
  have hle : f.fLen.toNat ≤ 8 := fLen_le_of_withFrame (by rw [← hexec, h]) Response.noConfusion
  by_contra hk
  have habsent : Answers (q.2 f) s .absent := by
    rw [Answers, hexec, withFrame_answerMessage_absent s hle (kindDecoders_absent _ hd hk)]
  cases answers_unique h habsent

/-- Two decoding operations of one kind are the same. -/
theorem decoderOp_unique : ∀ q ∈ decoderOps, ∀ q' ∈ decoderOps, q.1 = q'.1 → q = q' := by
  have hnodup : (decoderOps.map Prod.fst).Nodup := by decide
  exact fun q hq q' hq' => List.inj_on_of_nodup_map hnodup hq hq'

/-- `PARSE_ANY` is `OK` exactly when a decoder is, with its result (R136). -/
theorem parseAny_ok_iff {f : OperandFrame} {s : State} {v : Result} :
    Answers (.parseAny f) s (.ok v) ↔ ∃ q ∈ decoderOps, Answers (q.2 f) s (.ok v) := by
  constructor
  · intro h
    have hle : f.fLen.toNat ≤ 8 := fLen_le_of_withFrame h Response.noConfusion
    obtain ⟨k, hk, hmatch⟩ :
        ∃ k : Byte, (1 ≤ k.toNat ∧ k.toNat ≤ 4) ∧ MatchesKind k (operandPayload f) := by
      by_contra hnone
      push Not at hnone
      cases answers_unique h (parseAny_answers_absent s hle hnone)
    obtain ⟨c, hc⟩ := exists_decoderOp hk
    exact ⟨_, hc, (exec_parseAny_of_matchesKind s _ hc hmatch).symm.trans h⟩
  · rintro ⟨q, hq, h⟩
    exact (exec_parseAny_of_matchesKind s q hq (matchesKind_of_decoderOp_ok q hq h)).trans h

/-- `KIND_OF` is `OK` only with the kind of the payload of a Frame (R113). -/
theorem matchesKind_of_kindOf_ok {f : OperandFrame} {s : State} {k : Byte}
    (h : Answers (.kindOf f) s (.ok (.kind k))) : f.fLen.toNat ≤ 8 ∧ MatchesKind k (operandPayload f) := by
  have hle : f.fLen.toNat ≤ 8 := fLen_le_of_withFrame h Response.noConfusion
  refine ⟨hle, ?_⟩
  by_cases hrec : MatchesRecognized (operandPayload f)
  · cases answers_unique h (kindOf_answers_kind s hle hrec)
    exact (matchesKind_iff_recognized _ _).2 ⟨hrec, operandPayload_kindTag hrec.1⟩
  · cases answers_unique h (kindOf_answers_absent s hle hrec)

/-- `KIND_OF` is `ABSENT` only for the payload of a Frame that is not recognized (R113). -/
theorem not_recognized_of_kindOf_absent {f : OperandFrame} {s : State}
    (h : Answers (.kindOf f) s .absent) : f.fLen.toNat ≤ 8 ∧ ¬ MatchesRecognized (operandPayload f) := by
  have hle : f.fLen.toNat ≤ 8 := fLen_le_of_withFrame h Response.noConfusion
  refine ⟨hle, fun hrec => ?_⟩
  cases answers_unique h (kindOf_answers_kind s hle hrec)

/-- Settles O43: a decoder that is `OK` has the payload's kind, of which there is one, and `PARSE_ANY` and
`KIND_OF` go by that kind. -/
theorem atMostOneDecoderAnswers : Obligations.AtMostOneDecoderAnswers := by
  intro f s ds
  have hds : ds = decoderOps.map fun q => q.2 f := rfl
  rw [hds]
  refine ⟨?_, fun v => ?_, fun k hk => ?_, fun h => ?_⟩
  · simp only [List.forall_mem_map]
    intro q hq q' hq' v w hv hw
    have hkind := matchesKind_unique (matchesKind_of_decoderOp_ok q hq hv)
      (matchesKind_of_decoderOp_ok q' hq' hw)
    obtain rfl := decoderOp_unique q hq q' hq' hkind
    exact ⟨rfl, Response.ok.inj (answers_unique hv hw)⟩
  · simp only [List.mem_map, exists_exists_and_eq_and]
    exact parseAny_ok_iff
  · obtain ⟨hle, hmatch⟩ := matchesKind_of_kindOf_ok hk
    obtain ⟨h1, h2, h3, h4⟩ := (forall_decoderOps (P := fun k' c =>
      k = k' → exec (.parseAny f) s = exec (c f) s)).1 fun q hq e =>
        exec_parseAny_of_matchesKind s q hq (e ▸ hmatch)
    refine ⟨h1, h2, h3, h4, fun hother => ?_⟩
    obtain ⟨-, -, habsent, -⟩ := otherKindsAreAbsent f k s hle hmatch hother
    exact habsent
  · obtain ⟨hle, hrec⟩ := not_recognized_of_kindOf_absent h
    exact parseAny_answers_absent s hle fun k _ hk => hrec ((matchesKind_iff_recognized k _).1 hk).1

/-! ## A bare payload is routed as `PARSE_ANY` routes it (log entries 3 and 7) -/

/-- What a step makes of what is presented, once it has been decoded. -/
def runDecoded : Except DecodeError Instr → State → StepOutcome
  | .ok i => exec i
  | .error e => answerUndecoded e

/-- With an input pending, a step runs what it decodes to, no longer pending (R26). -/
theorem step_eq_runDecoded {s : State} {x : Input} {rest : List Input} (h : s.pending = x :: rest) :
    step s = runDecoded (decode x) { s with pending := rest } := by
  cases hd : decode x with
  | ok i => exact step_of_decode_ok h hd
  | error e => exact step_of_decode_error h hd

/-- The demultiplexer raises a construction error for more than 8 bytes (R111). -/
theorem routePayload_of_gt {p : List Byte} (h : 8 < p.length) : routePayload p = raise .constructionError := by
  have hframe : framePayload p = .error .constructionError := if_pos h
  funext s
  simp [routePayload, hframe]

/-- The demultiplexer is absent where the dispatcher is. -/
theorem routePayload_of_parseAny_none {p : List Byte} (hle : p.length ≤ 8)
    (h : parseAny { payload := p } = none) : routePayload p = answerAbsent := by
  rw [routePayload_of_le hle]
  funext s
  rw [answerMessage, h, Option.map_none, answerOptional_none, answerAbsent_eq]

/-- The dispatcher is absent for a payload that is not recognized (R135). -/
theorem parseAny_of_not_recognized {fr : Frame} (h : ¬ MatchesRecognized fr.payload) : parseAny fr = none := by
  simp [parseAny, (kindOf_eq_none_iff fr).2 h]

/-- A recognized payload that is too short for its kind is absent (R83, R130). -/
theorem routePayload_short {k : Byte} {len : Nat} {fields : ProprietaryHeader → List Byte → Option Message}
    {rest : List Byte} (hr : BitVec 2) (hdec : (k, decodeVariant k len fields) ∈ kindDecoders)
    (hmax : rest.length ≤ 5) (hshort : 3 + rest.length < len) :
    routePayload (recognizedPayload hr k rest) = answerAbsent := by
  have hsize := recognizedPayload_length hr k rest
  refine routePayload_of_parseAny_none (by omega) ?_
  rw [parseAny_of_matchesKind _ hdec (matchesKind_recognizedPayload hr k rest)]
  exact decodeVariant_absent fun ⟨_, hlen⟩ => absurd (hsize ▸ hlen) (by omega)

/-- A payload of kind 1 runs as its row, whose meaning is to be routed; one too short for the row is absent
either way (R64, R83). -/
theorem runDecoded_simpleActionRow (hr : BitVec 2) {rest : List Byte} (hmax : rest.length ≤ 5) :
    runDecoded (decodeSimpleActionRow hr rest) =
      routePayload (recognizedPayload hr Config.kindSimpleAction rest) := by
  have hdec : (Config.kindSimpleAction, decodeSimpleAction) ∈ kindDecoders := by simp [kindDecoders]
  match rest with
  | _ :: _ :: _ :: _ => rfl
  | [] | [_] | [_, _] => exact (routePayload_short (len := 6) hr hdec hmax (by simp)).symm

/-- The same of kind 2 (R65, R83). -/
theorem runDecoded_stateInfoRow (hr : BitVec 2) {rest : List Byte} (hmax : rest.length ≤ 5) :
    runDecoded (decodeStateInfoRow hr rest) =
      routePayload (recognizedPayload hr Config.kindStateInfo rest) := by
  have hdec : (Config.kindStateInfo, decodeStateInfo) ∈ kindDecoders := by simp [kindDecoders]
  match rest with
  | _ :: _ :: _ :: _ :: _ => rfl
  | [] | [_] | [_, _] | [_, _, _] => exact (routePayload_short (len := 7) hr hdec hmax (by simp)).symm

/-- The same of kind 3, which has no bytes beyond its fields (R66, R83). -/
theorem runDecoded_customHsbRow (hr : BitVec 2) {rest : List Byte} (hmax : rest.length ≤ 5) :
    runDecoded (decodeCustomHsbRow hr rest) =
      routePayload (recognizedPayload hr Config.kindCustomHsb rest) := by
  have hdec : (Config.kindCustomHsb, decodeCustomHsb) ∈ kindDecoders := by simp [kindDecoders]
  match rest with
  | [_, _, _, _, _] => rfl
  | [] | [_] | [_, _] | [_, _, _] | [_, _, _, _] =>
    exact (routePayload_short (len := 8) hr hdec hmax (by simp)).symm
  | _ :: _ :: _ :: _ :: _ :: _ :: _ => exact absurd hmax (by simp)

/-- The same of kind 4 (R67, R83). -/
theorem runDecoded_startPatternRow (hr : BitVec 2) {rest : List Byte} (hmax : rest.length ≤ 5) :
    runDecoded (decodeStartPatternRow hr rest) =
      routePayload (recognizedPayload hr Config.kindStartPattern rest) := by
  have hdec : (Config.kindStartPattern, decodeStartPattern) ∈ kindDecoders := by simp [kindDecoders]
  match rest with
  | _ :: _ :: _ :: _ => rfl
  | [] | [_] | [_, _] => exact (routePayload_short (len := 6) hr hdec hmax (by simp)).symm

/-- Whatever its kind, a recognized payload is answered by the demultiplexer (R75). -/
theorem runDecoded_decodeKind (hr : BitVec 2) (k : Byte) {rest : List Byte} (hmax : rest.length ≤ 5) :
    runDecoded (decodeKind hr k rest) = routePayload (recognizedPayload hr k rest) := by
  unfold decodeKind
  split_ifs with h1 h2 h3 h4 h5 h6 h7 h8 h16
  · rw [h1, runDecoded_simpleActionRow hr hmax]
  · rw [h2, runDecoded_stateInfoRow hr hmax]
  · rw [h3, runDecoded_customHsbRow hr hmax]
  · rw [h4, runDecoded_startPatternRow hr hmax]
  · rw [h5]; rfl
  · rw [h6]; rfl
  · rw [h7]; rfl
  · rw [h8]; rfl
  · rw [h16]; rfl
  · rfl

/-- A payload whose header carries the two constants is a recognized payload with the reserved bits of that
header (R62, R63). -/
theorem recognizedPayload_of_bytes {b0 b1 : Byte} (k : Byte) (rest : List Byte)
    (hmfr : headerManufacturer (wordOfBytes b0 b1) = Config.mfrCode)
    (hind : headerIndustry (wordOfBytes b0 b1) = Config.indCode) :
    recognizedPayload (headerReserved (wordOfBytes b0 b1)) k rest = b0 :: b1 :: k :: rest := by
  rw [recognizedPayload, recognizedHeader, ← hmfr, ← hind, joinHeaderWord_fields, wordBytes,
    extract_wordOfBytes_low, extract_wordOfBytes_high]
  rfl

/-- Three bytes or more are recognized by the codes of the first two (R76). -/
theorem matchesRecognized_cons (b0 b1 k : Byte) (rest : List Byte) :
    MatchesRecognized (b0 :: b1 :: k :: rest) ↔
      headerManufacturer (wordOfBytes b0 b1) = Config.mfrCode ∧
        headerIndustry (wordOfBytes b0 b1) = Config.indCode :=
  Iff.trans (by simp [MatchesRecognized, firstThree]) (matches_recognized_bytes k b1 b0)

/-- Three to eight bytes decode by the codes of the first two (R76). -/
theorem decodePayload_cons (b0 b1 k : Byte) {rest : List Byte} (hmax : rest.length ≤ 5) :
    decodePayload (b0 :: b1 :: k :: rest) =
      if headerManufacturer (wordOfBytes b0 b1) = Config.mfrCode ∧
          headerIndustry (wordOfBytes b0 b1) = Config.indCode then
        decodeKind (headerReserved (wordOfBytes b0 b1)) k rest
      else .error .notRecognized :=
  if_neg (by simp [Config.maxPayload]; omega)

/-- Whatever it decodes to, a bare payload is answered by the demultiplexer. -/
theorem runDecoded_decodePayload (p : List Byte) : runDecoded (decodePayload p) = routePayload p := by
  rcases Nat.lt_or_ge 8 p.length with hlen | hle
  · have htooLong : decodePayload p = .error .payloadTooLong := if_pos hlen
    rw [htooLong, routePayload_of_gt hlen]
    rfl
  · have habsent (h : ¬ MatchesRecognized p) : routePayload p = answerAbsent :=
      routePayload_of_parseAny_none hle (parseAny_of_not_recognized h)
    match p with
    | b0 :: b1 :: k :: rest =>
      have hmax : rest.length ≤ 5 := Nat.le_of_add_le_add_right (b := 3) hle
      rw [decodePayload_cons b0 b1 k hmax]
      split_ifs with hcodes
      · obtain ⟨hmfr, hind⟩ := hcodes
        rw [runDecoded_decodeKind _ k hmax, recognizedPayload_of_bytes k rest hmfr hind]
      · exact (habsent (mt (matchesRecognized_cons b0 b1 k rest).1 hcodes)).symm
    | [] | [_] | [_, _] => exact (habsent fun h => absurd h.1 (by simp)).symm

/-- Settles O47: a bare payload is answered by the demultiplexer, which dispatches on the payload alone. -/
theorem payloadAnsweredAsParseAny : Obligations.PayloadAnsweredAsParseAny := by
  intro s p rest hp
  have hstep : step s = routePayload p { s with pending := rest } := by
    rw [step_eq_runDecoded hp, decode, runDecoded_decodePayload]
  refine ⟨fun f hle hf => ?_, fun hlen => ?_⟩
  · subst hf
    have hparse : parseAny { payload := operandPayload f } =
      parseAny ⟨f.fId, operandPayload f, f.fPrio, f.fSrc, f.fDst⟩ := parseAny_congr rfl
    rw [hstep, exec_parseAny, withFrame_of_le _ _ hle,
      routePayload_of_le ((operandPayload_length hle).trans_le hle), answerMessage, answerMessage, hparse]
  · rw [hstep, routePayload_of_gt hlen, raise_eq]

end Sys2Proof.Proofs
end

section
/-!
The outcomes of spec/60_exceptions.md: the status codes (R141), the status rows of the table (log entries 3
and 7), and the requests that end in each fault (R142, R143, R145).
-/

namespace Sys2Proof.Proofs

open Sys2Proof.Machine Sys2Proof.Laws

/-! ## The status codes (R141) -/

/-- Settles O49: `status` carries the code of the response, read off for each kind of response and fault. -/
theorem statusCodesOfOutcomes : Obligations.StatusCodesOfOutcomes := by
  intro s r
  rw [responsePorts_respond, driveResponse_status]
  cases r with
  | ok v => rfl
  | absent => rfl
  | fault f => cases f <;> rfl

/-- The instruction ends its transaction with this code on `status`, and with no result on any port. -/
def EndsWithCode (s : State) (i : Instr) (c : StatusCode) : Prop :=
  ∃ r : Response, Answers i s r ∧ (∀ v, r = .ok v → v = .notStated) ∧
    responsePorts (respond r s) = { Config.undrivenPorts (s.freeIndex + 1) with status := c }

/-- An outcome other than `OK` ends the transaction with its own code (R36, R151). -/
theorem endsWithCode_of_not_ok {s : State} {i : Instr} {r : Response} (h : Answers i s r)
    (hr : ∀ v, r ≠ .ok v) : EndsWithCode s i (responseStatus r) :=
  ⟨r, h, fun v hv => absurd hv (hr v), onlyStatusDrivenWithoutOk s r hr⟩

/-- An `OK` that states no value ends the transaction with code 0 (log entry 3). -/
theorem endsWithCode_of_notStated {s : State} {i : Instr} (h : Answers i s (.ok .notStated)) :
    EndsWithCode s i (responseStatus (.ok .notStated)) :=
  ⟨.ok .notStated, h, fun _ hv => (Response.ok.inj hv).symm, rfl⟩

/-- A fault ends the transaction with its own code (R151). -/
theorem endsWithCode_of_fault {s : State} {i : Instr} (f : BlockFault) (h : Answers i s (.fault f)) :
    EndsWithCode s i (faultStatus f) :=
  endsWithCode_of_not_ok h fun _ => Response.noConfusion

/-- Settles O50: `STATUS_OK` states no value, `STATUS_ABSENT` is absent, and the three other rows are
faults. -/
theorem statusRowsEndWithTheirCode : Obligations.StatusRowsEndWithTheirCode := by
  intro s
  change ∀ q ∈ (_ : List (Instr × StatusCode)), EndsWithCode s q.1 q.2
  simp only [List.forall_mem_cons]
  refine ⟨?_, ?_, ?_, ?_, ?_, by simp⟩
  · exact endsWithCode_of_notStated (returnOk_eq .notStated s)
  · exact endsWithCode_of_not_ok (r := .absent) (answerAbsent_eq s) fun _ => Response.noConfusion
  · exact endsWithCode_of_fault .constructionError (raise_eq _ s)
  · exact endsWithCode_of_fault .malformedHeader (raise_eq _ s)
  · exact endsWithCode_of_fault .illegalOp (raise_eq _ s)

/-- The codes 5, 6 and 7 are no row of the table (R141). -/
theorem decodeStatus_of_ge {c : StatusCode} (h : 5 ≤ c.toNat) :
    decodeStatus c = .error .statusNeverProduced := by
  have hcode : c = 5 ∨ c = 6 ∨ c = 7 := by bv_omega
  rcases hcode with rfl | rfl | rfl
  all_goals rfl

/-- Settles O55: such a code does not decode, and what is answered then is the stop. -/
theorem statusNeverProducedStops : Obligations.StatusNeverProducedStops :=
  fun _ _ _ hp hc => step_of_decode_error hp (decodeStatus_of_ge hc)

/-! ## The operations that can raise a fault, and those that cannot -/

/-- The eight operations that take a Frame, with their select codes: `MAKE_FRAME` and the seven that answer
from the payload (R74, R111). -/
def frameOps : List (OpCode × (OperandFrame → Instr)) := (0x04, .makeFrame) :: payloadOps

/-- The operations that raise nothing: the identifier codec, `PACK_HDR` and the four encoders (R74). -/
def totalOps : List OpCode := [0x00, 0x01, 0x02, 0x09, 0x0A, 0x0B, 0x0C]

/-- Every select code is unassigned, takes a Frame, is `UNPACK_HDR`, or raises nothing. -/
theorem op_cases_by_fault : ∀ op : OpCode,
    op ∈ unassignedOps ∨ op ∈ frameOps.map Prod.fst ∨ op = 0x03 ∨ op ∈ totalOps := by
  decide

/-- A request for an operation that takes a Frame decodes to it, on the operand frame. -/
theorem decodeRequest_frameOp {r : Request} :
    ∀ q ∈ frameOps, r.op = q.1 → decodeRequest r = q.2 r.f :=
  List.forall_mem_cons.2 ⟨decodeRequest_op04, fun q hq => decodeRequest_payloadOp q hq r⟩

/-- Each of the eight operations constructs the Frame first (R110, R111). -/
theorem frameOp_answers_constructionError {f : OperandFrame} (s : State) (h : 8 < f.fLen.toNat) :
    ∀ q ∈ frameOps, Answers (q.2 f) s (.fault .constructionError) :=
  List.forall_mem_cons.2 ⟨withFrame_of_gt _ s h, payloadOp_answers_constructionError s h⟩

/-- An optional result is `OK` or `ABSENT`, never a fault (R16). -/
theorem answerOptional_ne_fault (v : Option Result) (s : State) (e : BlockFault) :
    answerOptional v s ≠ .next (respond (.fault e) s) := by
  intro h
  cases v with
  | none => cases respond_injective (Host.Outcome.next.inj h)
  | some v => cases respond_injective (Host.Outcome.next.inj h)

/-- An operation on a Frame that raises nothing on a Frame itself raises only the construction error, and
only where there is no Frame (R111). -/
theorem withFrame_fault {f : OperandFrame} {k : Frame → State → StepOutcome} {s : State} {e : BlockFault}
    (hk : ∀ fr, k fr s ≠ .next (respond (.fault e) s))
    (h : withFrame f k s = .next (respond (.fault e) s)) :
    e = .constructionError ∧ 8 < f.fLen.toNat := by
  obtain ⟨hlen, heq⟩ | ⟨-, heq⟩ := withFrame_cases f k s
  · exact ⟨Response.fault.inj (respond_injective (Host.Outcome.next.inj (h.symm.trans heq))), hlen⟩
  · exact absurd (heq.symm.trans h) (hk _)

/-- Each of the eight operations raises only the construction error, and only above 8 bytes (R111). -/
theorem frameOp_fault {f : OperandFrame} {s : State} {e : BlockFault} :
    ∀ q ∈ frameOps, Answers (q.2 f) s (.fault e) → e = .constructionError ∧ 8 < f.fLen.toNat := by
  refine List.forall_mem_cons.2 ⟨?_, forall_payloadOps (P := fun _ c =>
    Answers (c f) s (.fault e) → e = .constructionError ∧ 8 < f.fLen.toNat).2 ⟨?_, ?_, ?_, ?_, ?_, ?_, ?_⟩⟩
  · exact withFrame_fault fun fr => answerOptional_ne_fault (some (.frame fr)) s e
  · exact withFrame_fault fun fr => answerOptional_ne_fault (some (.recognized (isRecognized fr))) s e
  all_goals exact withFrame_fault fun _ => answerOptional_ne_fault _ s e

/-- The identifier codec, `PACK_HDR` and the encoders answer every request with `OK` (R90, R91, R100,
R120). -/
theorem totalOp_answers_ok {r : Request} (s : State) (h : r.op ∈ totalOps) :
    ∃ v, Answers (decodeRequest r) s (.ok v) := by
  simp only [totalOps, List.mem_cons, List.not_mem_nil, or_false] at h
  rcases h with h | h | h | h | h | h | h
  · exact ⟨_, decodeRequest_op00 h ▸ buildId_answers _ _ _ _ s⟩
  · exact ⟨_, decodeRequest_op01 h ▸ decomposeId_answers _ s⟩
  · exact ⟨_, decodeRequest_op02 h ▸ packHdr_answers _ _ s⟩
  · exact ⟨_, decodeRequest_op09 h ▸ encSimpleAction_answers _ _ _ _ s⟩
  · exact ⟨_, decodeRequest_op0A h ▸ encStateInfo_answers _ _ _ _ s⟩
  · exact ⟨_, decodeRequest_op0B h ▸ encCustomHsb_answers _ _ _ _ _ _ _ s⟩
  · exact ⟨_, decodeRequest_op0C h ▸ encStartPattern_answers _ _ _ _ s⟩

/-! ## The requests of each fault (R142, R143, R145) -/

/-- The condition on a request under which a fault is raised: `IllegalOp` for an unassigned code (R145),
`ConstructionError` for more than 8 bytes where a Frame is taken (R142), `MalformedHeader` for fewer than 2
bytes to unpack (R143). -/
def RaisesFault (r : Request) : BlockFault → Prop
  | .illegalOp => r.op ∈ unassignedOps
  | .constructionError => r.op ∈ frameOps.map Prod.fst ∧ 8 < r.f.fLen.toNat
  | .malformedHeader => r.op = 0x03 ∧ r.f.fLen.toNat < 2

/-- Where the condition of a fault holds, the fault is the answer. -/
theorem answers_fault_of_raisesFault {r : Request} {e : BlockFault} (s : State) (h : RaisesFault r e) :
    Answers (decodeRequest r) s (.fault e) := by
  cases e with
  | illegalOp => exact congrFun (exec_decodeRequest_unassigned h) s
  | constructionError =>
    obtain ⟨hop, hlen⟩ := h
    obtain ⟨q, hq, hcode⟩ := List.mem_map.1 hop
    rw [decodeRequest_frameOp q hq hcode.symm]
    exact frameOp_answers_constructionError s hlen q hq
  | malformedHeader =>
    obtain ⟨hop, hlen⟩ := h
    rw [decodeRequest_op03 hop]
    exact unpackHdr_answers_short _ _ s hlen

/-- A fault is answered only where its condition holds: the select code decides which fault is possible. -/
theorem raisesFault_of_answers_fault {r : Request} {s : State} {e : BlockFault}
    (h : Answers (decodeRequest r) s (.fault e)) : RaisesFault r e := by
  obtain hop | hop | hop | hop := op_cases_by_fault r.op
  · have hillegal : Answers (decodeRequest r) s (.fault .illegalOp) :=
      congrFun (exec_decodeRequest_unassigned hop) s
    cases answers_unique h hillegal
    exact hop
  · obtain ⟨q, hq, hcode⟩ := List.mem_map.1 hop
    rw [decodeRequest_frameOp q hq hcode.symm] at h
    obtain ⟨rfl, hlen⟩ := frameOp_fault q hq h
    exact ⟨hop, hlen⟩
  · rw [decodeRequest_op03 hop] at h
    rcases Nat.lt_or_ge r.f.fLen.toNat 2 with hlen | hlen
    · cases answers_unique h (unpackHdr_answers_short _ _ s hlen)
      exact ⟨hop, hlen⟩
    · cases answers_unique h (unpackHdr_answers _ _ s hlen)
  · obtain ⟨v, hv⟩ := totalOp_answers_ok s hop
    cases answers_unique h hv

/-- A request is answered with a fault exactly where the fault's condition holds. -/
theorem answers_fault_iff {r : Request} {s : State} {e : BlockFault} :
    Answers (decodeRequest r) s (.fault e) ↔ RaisesFault r e :=
  ⟨raisesFault_of_answers_fault, answers_fault_of_raisesFault s⟩

/-- The unassigned codes are five below 0x11 and all from 0x15 on (R82). -/
theorem mem_unassignedOps_iff : ∀ op : OpCode,
    op ∈ unassignedOps ↔ op ∈ [0x08#5, 0x0D#5, 0x0E#5, 0x0F#5, 0x10#5] ∨ 0x15 ≤ op.toNat := by
  decide

/-- Settles O54: `answers_fault_iff` for each of the three faults. -/
theorem faultsExactlyWhereRaised : Obligations.FaultsExactlyWhereRaised := fun r _ =>
  ⟨answers_fault_iff.trans (mem_unassignedOps_iff r.op), answers_fault_iff, answers_fault_iff⟩

end Sys2Proof.Proofs
end

section
/-!
Reset and runs of spec/70_reset_and_hazards.md: the state after reset (R170), the decode side as a function of
the payload (R177), and a run of the presented inputs (R183).
-/

namespace Sys2Proof.Proofs

open Sys2Proof.Machine Sys2Proof.Laws

/-! ## Reset (R170) -/

/-- The block has one state, since it has no storage (R20). -/
theorem block_unique (b b' : Block) : b = b' := rfl

/-- Settles O4: the fields of the host's side are those of `State.reset`, and the block has one state. -/
theorem resetLeavesNothing : Obligations.ResetLeavesNothing :=
  ⟨rfl, rfl, rfl, fun s => block_unique s.block State.reset.block⟩

/-! ## The decode side is a function of the payload (R177) -/

/-- The operation on a Frame reads no other field than the payload. -/
def ReadsPayloadOnly (k : Frame → State → StepOutcome) : Prop :=
  ∀ fr fr' : Frame, fr.payload = fr'.payload → k fr = k fr'

theorem answerMessage_readsPayloadOnly {d : Frame → Option Message}
    (hd : ∀ fr fr' : Frame, fr.payload = fr'.payload → d fr = d fr') : ReadsPayloadOnly (answerMessage d) := by
  intro fr fr' h
  funext s
  rw [answerMessage, answerMessage, hd fr fr' h]

/-- Each of the seven operations constructs the Frame and then reads its payload only (R111, R177). -/
theorem exec_payloadOp_eq_withFrame :
    ∀ q ∈ payloadOps, ∃ k, ReadsPayloadOnly k ∧ ∀ f, exec (q.2 f) = withFrame f k := by
  refine forall_payloadOps (P := fun _ c => ∃ k, ReadsPayloadOnly k ∧ ∀ f, exec (c f) = withFrame f k).2
    ⟨?_, ?_, ?_, ?_, ?_, ?_, ?_⟩
  · exact ⟨_, fun _ _ h => by rw [isRecognized_congr h], fun _ => rfl⟩
  · exact ⟨_, fun _ _ h => by rw [kindOf_congr h], fun _ => rfl⟩
  · exact ⟨_, answerMessage_readsPayloadOnly fun _ _ => parseAny_congr, exec_parseAny⟩
  all_goals exact ⟨_, answerMessage_readsPayloadOnly fun _ _ => decodeVariant_congr, fun _ => rfl⟩

/-- Operand frames of one length, with one payload where there is a Frame, are alike to an operation that
reads the payload only: the lanes beyond the length are not among what it reads. -/
theorem withFrame_congr_payload {f f' : OperandFrame} {k : Frame → State → StepOutcome}
    (hk : ReadsPayloadOnly k) (hlen : f.fLen = f'.fLen)
    (hpayload : f.fLen.toNat ≤ 8 → operandPayload f = operandPayload f') : withFrame f k = withFrame f' k := by
  funext s
  obtain ⟨h, e⟩ | ⟨h, e⟩ := withFrame_cases f k s
  · rw [e, withFrame_of_gt k s (hlen ▸ h)]
  · rw [e, withFrame_of_le k s (hlen ▸ h)]
    exact congrFun (hk _ _ (hpayload h)) s

/-- Settles O29: each of the seven operations constructs the Frame and reads its payload only. -/
theorem decodeSideIgnoresIdentifier : Obligations.DecodeSideIgnoresIdentifier := by
  intro f f' s hlen hpayload
  refine forall_payloadOps (P := fun _ c => exec (c f) s = exec (c f') s).1 fun q hq => ?_
  obtain ⟨k, hk, hexec⟩ := exec_payloadOp_eq_withFrame q hq
  rw [hexec f, hexec f', withFrame_congr_payload hk hlen hpayload]

/-! ## A run answers each presented input in order (R183) -/

/-- The response to an input: what stands on the ports when a machine just reset has been given it. -/
def answerTo (x : Input) : Response :=
  match runDecoded (decode x) State.reset with
  | .next t => t.onPorts.getD .absent
  | .fault _ | .refused _ => .absent

/-- What a host can present is answered, with a response that is the same in every state (R48, R49). -/
theorem runDecoded_givesLegalAnswer {x : Input} (h : Answerable x) :
    GivesLegalAnswer (runDecoded (decode x)) := by
  cases hd : decode x with
  | ok i => exact exec_givesLegalAnswer i
  | error e => exact answerUndecoded_givesLegalAnswer fun he => h (he ▸ hd)

/-- The answer after reset is the answer in every state. -/
theorem runDecoded_eq_answerTo {x : Input} (h : Answerable x) (s : State) :
    runDecoded (decode x) s = .next (respond (answerTo x) s) := by
  obtain ⟨r, -, hr⟩ := runDecoded_givesLegalAnswer h
  have hanswer : answerTo x = r := by simp [answerTo, hr]
  rw [hr, hanswer]

/-- A run of one step more, on any machine, is a step and the run from there. -/
theorem run_succ_of_step {M : Host.Core} {s t : M.State} (h : M.step s = .next t) (n : Nat) :
    M.run (n + 1) s = M.run n t := by
  simp only [Host.Core.run, h]

/-- A run over a list of answerable inputs that are pending answers them one after the other and leaves the
block alone: the first is answered by one step, and the rest is a run from there. -/
theorem run_answers_pending : ∀ (inputs : List Input) (s : State), s.pending = inputs →
    (∀ x ∈ inputs, Answerable x) → ∃ t : State, core.run inputs.length s = .next t ∧
      t.block = s.block ∧ t.pending = [] ∧ t.responses = s.responses ++ inputs.map answerTo := by
  intro inputs
  induction inputs with
  | nil => exact fun s hp _ => ⟨s, rfl, rfl, hp, by simp⟩
  | cons x rest ih =>
    intro s hp hall
    obtain ⟨hx, hrest⟩ := List.forall_mem_cons.1 hall
    have hstep : step s = .next (respond (answerTo x) { s with pending := rest }) :=
      (step_eq_runDecoded hp).trans (runDecoded_eq_answerTo hx _)
    obtain ⟨t, hrun, hblock, hpending, hresponses⟩ :=
      ih (respond (answerTo x) { s with pending := rest }) rfl hrest
    exact ⟨t, (run_succ_of_step (M := core) hstep _).trans hrun, hblock, hpending, by simp [hresponses]⟩

/-- Settles O12: `answerTo` is the function from inputs to responses, and a run over what is pending gives its
values in order. -/
theorem runAnswersEachInputInOrder : Obligations.RunAnswersEachInputInOrder :=
  ⟨answerTo, fun s hall => run_answers_pending s.pending s rfl hall⟩

end Sys2Proof.Proofs
end

section
/-!
The encoder and the decoder are inverse (spec/30_encoding.md): what is encoded decodes to the instruction it
was, what decodes as a format is the encoding of what it decodes to, and a request keeps its select code.
-/

namespace Sys2Proof.Proofs

open Sys2Proof.Machine Sys2Proof.Laws

/-! ## Decoding what is encoded -/

/-- A recognized payload of at most 8 bytes decodes by its kind tag, with the reserved bits of its header
(R75, R76). -/
theorem decode_recognizedPayload (hr : BitVec 2) (k : Byte) {rest : List Byte} (hmax : rest.length ≤ 5) :
    decode (.payload (recognizedPayload hr k rest)) = decodeKind hr k rest := by
  obtain ⟨b0, b1, hbytes, hmfr, hind, hres⟩ := recognizedHeader_bytes hr
  rw [recognizedPayload, hbytes]
  change decodePayload (b0 :: b1 :: k :: rest) = _
  rw [decodePayload_cons b0 b1 k hmax, if_pos ⟨hmfr, hind⟩, hres]

/-- The bytes after the kind tag of a payload that fits are at most five (R40). -/
theorem restFits_iff {rest : List Byte} : restFits rest = true ↔ rest.length ≤ 5 := by
  simp only [restFits, decide_eq_true_iff, Config.maxPayload]
  omega

/-- The kinds with a row of their own, one by one (R75). -/
theorem mem_assignedKinds_iff {k : Byte} : k ∈ assignedKinds ↔
    k = Config.kindSimpleAction ∨ k = Config.kindStateInfo ∨ k = Config.kindCustomHsb ∨
    k = Config.kindStartPattern ∨ k = 5 ∨ k = 6 ∨ k = 7 ∨ k = 8 ∨ k = 16 := by
  simp only [assignedKinds, List.mem_append, List.mem_cons, List.not_mem_nil, or_false, or_assoc]

/-- The row of an unassigned kind is well formed when its bytes fit and the kind has no row of its own
(R32, R40). -/
theorem wellFormed_unassignedKind_iff {hr : BitVec 2} {k : Byte} {rest : List Byte} :
    Instr.WellFormed (.payloadUnassignedKind hr k rest) = true ↔ restFits rest = true ∧ k ∉ assignedKinds := by
  simp [Instr.WellFormed]

/-- A kind with no row of its own decodes as an unassigned kind (R80). -/
theorem decodeKind_unassigned (hr : BitVec 2) {k : Byte} (rest : List Byte) (h : k ∉ assignedKinds) :
    decodeKind hr k rest = .ok (.payloadUnassignedKind hr k rest) := by
  simp only [mem_assignedKinds_iff, not_or] at h
  obtain ⟨h1, h2, h3, h4, h5, h6, h7, h8, h16⟩ := h
  rw [decodeKind, if_neg h1, if_neg h2, if_neg h3, if_neg h4, if_neg h5, if_neg h6, if_neg h7, if_neg h8,
    if_neg h16]

/-- Settles O5: a request by its select code and operands, an identifier and a header word by their fields, a
payload by its kind tag. -/
theorem decodeOfEncode : Obligations.DecodeOfEncode := by
  intro i hi
  cases i with
  | buildId | decomposeId | packHdr | unpackHdr | makeFrame | isRecognized | kindOf | parseAny
  | encSimpleAction | encStateInfo | encCustomHsb | encStartPattern
  | decSimpleAction | decStateInfo | decCustomHsb | decStartPattern
  | unassignedOp08 | unassignedOp0D | unassignedOp0E | unassignedOp0F | unassignedOp10 | unassignedOp15
  | unassignedOp16 | unassignedOp17 | unassignedOp18 | unassignedOp19 | unassignedOp1A | unassignedOp1B
  | unassignedOp1C | unassignedOp1D | unassignedOp1E | unassignedOp1F
  | statusOk | statusAbsent | statusConstructionError | statusMalformedHeader | statusIllegalOp => rfl
  | payloadSimpleAction hr a s r extra | payloadStartPattern hr a s r extra =>
    have hfit : 6 + extra.length ≤ 8 := of_decide_eq_true hi
    exact decode_recognizedPayload hr _ (rest := a :: s :: r :: extra) (by simp; omega)
  | payloadStateInfo hr s st ty r extra =>
    have hfit : 7 + extra.length ≤ 8 := of_decide_eq_true hi
    exact decode_recognizedPayload hr _ (rest := s :: st :: ty :: r :: extra) (by simp; omega)
  | payloadCustomHsb hr a s h sa b =>
    exact decode_recognizedPayload hr _ (rest := [a, s, h, sa, b]) (by simp)
  | payloadReservedKind5 hr rest | payloadReservedKind6 hr rest | payloadReservedKind7 hr rest
  | payloadReservedKind8 hr rest | payloadReservedKind16 hr rest =>
    exact decode_recognizedPayload hr _ (restFits_iff.1 hi)
  | payloadUnassignedKind hr k rest =>
    obtain ⟨hfit, hkind⟩ := wellFormed_unassignedKind_iff.1 hi
    exact (decode_recognizedPayload hr k (restFits_iff.1 hfit)).trans (decodeKind_unassigned hr rest hkind)
  | identifier p n src =>
    simp only [encode, decode, idPriority_joinIdentifier, idRegion_joinIdentifier, idSource_joinIdentifier]
  | headerWord m res i =>
    simp only [encode, decode, headerManufacturer_joinHeaderWord, headerReserved_joinHeaderWord,
      headerIndustry_joinHeaderWord]

/-- Settles O2: the encoding decodes to the instruction, and what decodes is run. -/
theorem stepRunsEncodedInstruction : Obligations.StepRunsEncodedInstruction :=
  fun _ _ i hi hp => step_of_decode_ok hp (decodeOfEncode i hi)

/-! ## Encoding what a format decodes to -/

/-- The instruction is a well-formed one whose encoding is this input. -/
def EncodedBy (x : Input) (i : Instr) : Prop := i.WellFormed = true ∧ encode i = x

/-- A row of kind 1 is the recognized payload it was read from (R64). -/
theorem encodedBy_of_simpleActionRow {hr : BitVec 2} {rest : List Byte} {i : Instr} (hmax : rest.length ≤ 5)
    (h : decodeSimpleActionRow hr rest = .ok i) :
    EncodedBy (.payload (recognizedPayload hr Config.kindSimpleAction rest)) i := by
  unfold decodeSimpleActionRow at h
  split at h
  · next extra =>
      have hfit : 6 + extra.length ≤ 8 := by simp at hmax; omega
      cases h
      exact ⟨decide_eq_true hfit, rfl⟩
  · cases h

/-- The same of kind 2 (R65). -/
theorem encodedBy_of_stateInfoRow {hr : BitVec 2} {rest : List Byte} {i : Instr} (hmax : rest.length ≤ 5)
    (h : decodeStateInfoRow hr rest = .ok i) :
    EncodedBy (.payload (recognizedPayload hr Config.kindStateInfo rest)) i := by
  unfold decodeStateInfoRow at h
  split at h
  · next extra =>
      have hfit : 7 + extra.length ≤ 8 := by simp at hmax; omega
      cases h
      exact ⟨decide_eq_true hfit, rfl⟩
  · cases h

/-- The same of kind 3, whose row has no bytes beyond its fields (R66). -/
theorem encodedBy_of_customHsbRow {hr : BitVec 2} {rest : List Byte} {i : Instr}
    (h : decodeCustomHsbRow hr rest = .ok i) :
    EncodedBy (.payload (recognizedPayload hr Config.kindCustomHsb rest)) i := by
  unfold decodeCustomHsbRow at h
  split at h
  · cases h
    exact ⟨rfl, rfl⟩
  · cases h

/-- The same of kind 4 (R67). -/
theorem encodedBy_of_startPatternRow {hr : BitVec 2} {rest : List Byte} {i : Instr} (hmax : rest.length ≤ 5)
    (h : decodeStartPatternRow hr rest = .ok i) :
    EncodedBy (.payload (recognizedPayload hr Config.kindStartPattern rest)) i := by
  unfold decodeStartPatternRow at h
  split at h
  · next extra =>
      have hfit : 6 + extra.length ≤ 8 := by simp at hmax; omega
      cases h
      exact ⟨decide_eq_true hfit, rfl⟩
  · cases h

/-- Whatever its kind, a row is the recognized payload it was read from (R75). -/
theorem encodedBy_of_decodeKind {hr : BitVec 2} {k : Byte} {rest : List Byte} {i : Instr}
    (hmax : rest.length ≤ 5) (h : decodeKind hr k rest = .ok i) :
    EncodedBy (.payload (recognizedPayload hr k rest)) i := by
  have hfit : restFits rest = true := restFits_iff.2 hmax
  unfold decodeKind at h
  split_ifs at h with h1 h2 h3 h4 h5 h6 h7 h8 h16
  · exact h1 ▸ encodedBy_of_simpleActionRow hmax h
  · exact h2 ▸ encodedBy_of_stateInfoRow hmax h
  · exact h3 ▸ encodedBy_of_customHsbRow h
  · exact h4 ▸ encodedBy_of_startPatternRow hmax h
  · cases h; exact ⟨hfit, by rw [h5]; rfl⟩
  · cases h; exact ⟨hfit, by rw [h6]; rfl⟩
  · cases h; exact ⟨hfit, by rw [h7]; rfl⟩
  · cases h; exact ⟨hfit, by rw [h8]; rfl⟩
  · cases h; exact ⟨hfit, by rw [h16]; rfl⟩
  · have hkind : k ∉ assignedKinds := by
      simp only [mem_assignedKinds_iff, not_or]
      exact ⟨h1, h2, h3, h4, h5, h6, h7, h8, h16⟩
    cases h
    exact ⟨wellFormed_unassignedKind_iff.2 ⟨hfit, hkind⟩, rfl⟩

/-- What a payload decodes to is encoded as that payload: no bit of its header is lost, since the two codes
are the constants and the reserved bits stand in the row (R62, R63). -/
theorem encodedBy_of_decodePayload {p : List Byte} {i : Instr} (h : decodePayload p = .ok i) :
    EncodedBy (.payload p) i := by
  have hle : p.length ≤ 8 := by
    by_contra hlong
    cases (if_pos (Nat.lt_of_not_le hlong) : decodePayload p = .error .payloadTooLong).symm.trans h
  match p with
  | b0 :: b1 :: k :: rest =>
    have hmax : rest.length ≤ 5 := Nat.le_of_add_le_add_right (b := 3) hle
    rw [decodePayload_cons b0 b1 k hmax] at h
    split_ifs at h with hcodes
    rw [← recognizedPayload_of_bytes k rest hcodes.1 hcodes.2]
    exact encodedBy_of_decodeKind hmax h
  | [] | [_] | [_, _] => cases h

/-- What a status code decodes to is encoded as that code (R141). -/
theorem encodedBy_of_decodeStatus {c : StatusCode} {i : Instr} (h : decodeStatus c = .ok i) :
    EncodedBy (.status c) i := by
  unfold decodeStatus at h
  split at h
  case h_6 => cases h
  all_goals
    next hcode =>
      cases h
      exact ⟨rfl, congrArg Input.status (BitVec.eq_of_toNat_eq hcode.symm)⟩

/-- What a format decodes to is encoded as the input it was. -/
theorem encodedBy_of_decode {x : Input} {i : Instr} (h : decode x = .ok i) (hx : ∀ r, x ≠ .request r) :
    EncodedBy x i := by
  cases x with
  | request r => exact absurd rfl (hx r)
  | identifier id =>
    cases h
    exact ⟨rfl, congrArg Input.identifier (joinIdentifier_fields id)⟩
  | headerWord w =>
    cases h
    exact ⟨rfl, congrArg Input.headerWord (joinHeaderWord_fields w)⟩
  | payload p => exact encodedBy_of_decodePayload h
  | status c => exact encodedBy_of_decodeStatus h

/-! ## Encoding what a request decodes to -/

/-- What a request decodes to is well formed and is encoded as a request with the same select code (R74,
R82). -/
theorem encodedBy_of_decodeRequest (r : Request) :
    ∃ r' : Request, EncodedBy (.request r') (decodeRequest r) ∧ r'.op = r.op := by
  unfold decodeRequest
  split
  case h_32 =>
    have hop : r.op = 0x1F := by simp only [imp_false] at *; bv_omega
    exact ⟨_, ⟨rfl, rfl⟩, hop.symm⟩
  all_goals
    next hop => exact ⟨_, ⟨rfl, rfl⟩, BitVec.eq_of_toNat_eq hop.symm⟩

/-- Settles O6: a format is encoded as the input it was; a request is encoded as one with its select code, and
decoding that is `decodeOfEncode`. -/
theorem encodeOfDecode : Obligations.EncodeOfDecode := by
  refine ⟨fun x i h => ?_, fun x i h hx => (encodedBy_of_decode h hx).2, fun r => ?_⟩
  · cases x with
    | request r =>
      obtain ⟨r', ⟨hwf, -⟩, -⟩ := encodedBy_of_decodeRequest r
      cases h
      exact hwf
    | identifier | headerWord | payload | status =>
      exact (encodedBy_of_decode h fun _ => Input.noConfusion).1
  · obtain ⟨r', ⟨hwf, henc⟩, hop⟩ := encodedBy_of_decodeRequest r
    have hdec : decode (.request r') = .ok (decodeRequest r) := henc ▸ decodeOfEncode _ hwf
    exact ⟨r', henc, hop, Except.ok.inj hdec⟩

end Sys2Proof.Proofs
end

section
/-!
The laws of the identifier codec (spec/40_identifier_codec.md section 3): decomposing what is built and
building what is decomposed (R92), the destinations that build the same identifier (R93), the identifiers of
the encoders (R94), and the open parameter `DST_TEST_RAW` (D11).
-/

namespace Sys2Proof.Proofs

open Sys2Proof.Machine Sys2Proof.Laws

/-! ## Building and decomposing (R92) -/

/-- A field of at most 32 bits on an operand port masks to itself (R71). -/
theorem mask_setWidth {w : Nat} (h : w ≤ 32) (x : BitVec w) : mask w (x.setWidth 32) = x := by
  rw [mask, BitVec.setWidth_setWidth_of_le x h, BitVec.setWidth_eq]

/-- The region of the masked operands, by the masked destination (R61, R90). -/
theorem region_mask_eq (aPn aDst : Arg) :
    region (mask 18 aPn) (mask 8 aDst) (mask 8 aDst == Config.broadcast) =
      if aDst.setWidth 8 = 255#8 then aPn.setWidth 18
      else (aPn.setWidth 18 &&& 0x3FF00#18) ||| (aDst.setWidth 8).setWidth 18 :=
  if_congr beq_iff_eq rfl rfl

/-- Decomposing what `BUILD_ID` built gives the masked priority and source, and the region (R92). -/
theorem decomposeId_buildIdentifier (aPn aSrc aDst aPrio : Arg) (s : State) :
    Answers (.decomposeId (buildIdentifier aPn aSrc aDst aPrio)) s (.ok (.parts (mask 3 aPrio)
      (region (mask 18 aPn) (mask 8 aDst) (mask 8 aDst == Config.broadcast)) (mask 8 aSrc))) := by
  have hparts := decomposeId_answers (buildIdentifier aPn aSrc aDst aPrio) s
  rwa [buildIdentifier_eq, idPriority_joinIdentifier, idRegion_joinIdentifier, idSource_joinIdentifier] at hparts

/-- Building to all from fields of their own widths places them as they are (R60, R90). -/
theorem buildIdentifier_of_fields (p : Priority) (n : ProtocolNumber) (src : Byte) :
    buildIdentifier (n.setWidth 32) (src.setWidth 32) 255 (p.setWidth 32) = joinIdentifier p n src := by
  have hall : (mask 8 255 == Config.broadcast) = true := rfl
  rw [buildIdentifier_eq, hall, region_toAll, mask_setWidth (by decide), mask_setWidth (by decide),
    mask_setWidth (by decide)]

/-- Settles O15: the fields of an identifier and the identifier are inverse, and the region as a number is
`region_mask_toNat`. -/
theorem identifierRoundTrip : Obligations.IdentifierRoundTrip := by
  refine ⟨fun aPn aSrc aDst aPrio s => ?_, fun aPn aSrc aDst aPrio id p n src s hid hparts => ?_,
    fun id p n src s hparts => ?_⟩
  · rw [← region_mask_eq]
    exact decomposeId_buildIdentifier aPn aSrc aDst aPrio s
  · cases answers_unique hid (buildId_answers aPn aSrc aDst aPrio s)
    cases answers_unique hparts (decomposeId_buildIdentifier aPn aSrc aDst aPrio s)
    refine ⟨rfl, rfl, ?_⟩
    rw [region_mask_toNat]
    split_ifs <;> omega
  · cases answers_unique hparts (decomposeId_answers id s)
    have hid := buildId_answers ((idRegion id).setWidth 32) ((idSource id).setWidth 32) 255
      ((idPriority id).setWidth 32) s
    rwa [buildIdentifier_of_fields, joinIdentifier_fields] at hid

/-! ## Destinations that build the same identifier (R93) -/

/-- To all is to the low byte of the protocol number: putting that byte in its own place changes nothing
(R93). -/
theorem buildIdentifier_broadcast_alias {aPn aSrc aDst aDst' aPrio : Arg} (hall : aDst.toNat % 2 ^ 8 = 255)
    (hlow : aDst'.toNat % 2 ^ 8 = aPn.toNat % 2 ^ 8) :
    buildIdentifier aPn aSrc aDst aPrio = buildIdentifier aPn aSrc aDst' aPrio := by
  apply BitVec.eq_of_toNat_eq
  rw [buildIdentifier_toNat, buildIdentifier_toNat, if_pos hall]
  split_ifs <;> omega

/-- Settles O16: both requests are answered with the identifier that they build. -/
theorem broadcastAliasesLowByte : Obligations.BroadcastAliasesLowByte := by
  have halias {aPn aSrc aDst aDst' aPrio : Arg} {s : State} (hall : aDst.toNat % 2 ^ 8 = 255)
      (hlow : aDst'.toNat % 2 ^ 8 = aPn.toNat % 2 ^ 8) :
      exec (.buildId aPn aSrc aDst aPrio) s = exec (.buildId aPn aSrc aDst' aPrio) s := by
    rw [buildId_answers, buildId_answers, buildIdentifier_broadcast_alias hall hlow]
  exact ⟨fun _ _ _ _ _ _ => halias, fun _ _ _ => halias rfl rfl⟩

/-! ## The identifiers of the encoders (R94) -/

/-- The identifier of protocol number 61184 and priority 6, as a number (R94). -/
theorem encoderIdentifier_toNat (aSrc aDst : Arg) : (buildIdentifier 61184 aSrc aDst 6).toNat =
    0x18EF0000 + (if aDst.toNat % 2 ^ 8 = 255 then 0 else aDst.toNat % 2 ^ 8) * 2 ^ 8 + aSrc.toNat % 2 ^ 8 := by
  have hpn : (61184 : Arg).toNat = 61184 := rfl
  have hprio : (6 : Arg).toNat = 6 := rfl
  rw [buildIdentifier_toNat, hpn, hprio]
  split_ifs <;> omega

/-- The Frame of an encoder carries the identifier that `BUILD_ID` answers to its operands (R120). -/
theorem buildId_answers_of_encodeFrame {i : Instr} {s : State} {fr : Frame} {kind : Byte} {aSrc aDst : Arg}
    {fields : List Arg} {reserved : Bool} (hfr : Answers i s (.ok (.frame fr)))
    (henc : Answers i s (.ok (.frame (encodeFrame kind aSrc aDst fields reserved)))) :
    Answers (.buildId 61184 aSrc aDst 6) s (.ok (.identifier fr.identifier)) := by
  cases answers_unique hfr henc
  exact buildId_answers 61184 aSrc aDst 6 s

/-- Settles O17: the identifier's number is in the range whatever the destination, since 255 stands as 0. -/
theorem encoderIdentifierRange : Obligations.EncoderIdentifierRange := by
  refine ⟨fun aSrc aDst id s hid => ?_, fun aSrc aDst a b c d e fr s => ⟨?_, fun hfr => ?_⟩⟩
  · cases answers_unique hid (buildId_answers 61184 aSrc aDst 6 s)
    have hnat := encoderIdentifier_toNat aSrc aDst
    have hdst : (if aDst.toNat % 2 ^ 8 = 255 then 0 else aDst.toNat % 2 ^ 8) ≤ 0xFE := by
      split_ifs <;> omega
    refine ⟨hnat, by omega, by omega, fun hbyte => ?_⟩
    have hbyteNat := congrArg BitVec.toNat hbyte
    rw [BitVec.extractLsb'_toNat, Nat.shiftRight_eq_div_pow, BitVec.toNat_ofNat] at hbyteNat
    omega
  · simp only [List.forall_mem_cons, List.not_mem_nil, IsEmpty.forall_iff, implies_true, and_true]
    exact ⟨fun hfr => buildId_answers_of_encodeFrame hfr (encSimpleAction_answers aSrc aDst a b s),
      fun hfr => buildId_answers_of_encodeFrame hfr (encCustomHsb_answers aSrc aDst a b c d e s),
      fun hfr => buildId_answers_of_encodeFrame hfr (encStartPattern_answers aSrc aDst a b s)⟩
  · exact buildId_answers_of_encodeFrame hfr (encStateInfo_answers aSrc a b c s)

/-! ## The open parameter `DST_TEST_RAW` (D11) -/

/-- The raw and the masked test of the destination differ only for a destination of 256 or more that masks to
255. -/
theorem isBroadcast_raw_eq {aDst : Arg} (h : ¬ (256 ≤ aDst.toNat ∧ aDst.toNat % 2 ^ 8 = 255)) :
    isBroadcast true aDst = isBroadcast false aDst := by
  have hraw : isBroadcast true aDst = true ↔ aDst.toNat = 255 := beq_iff_eq.trans BitVec.toNat_inj.symm
  have hmasked : isBroadcast false aDst = true ↔ aDst.toNat % 2 ^ 8 = 255 :=
    beq_iff_eq.trans (mask_eq_broadcast_iff aDst)
  rw [Bool.eq_iff_iff, hraw, hmasked]
  omega

/-- Settles O18: the parameter enters the identifier through the test of the destination only. -/
theorem rawDestinationTestDiffersOnlyAbove255 : Obligations.RawDestinationTestDiffersOnlyAbove255 := by
  intro aPn aSrc aDst aPrio hne
  by_contra h
  exact hne (by rw [buildIdentifierWith, buildIdentifierWith, isBroadcast_raw_eq h])

end Sys2Proof.Proofs
end

section
/-!
The laws of the header codec (spec/41_header_codec.md section 3, R102) and the properties of recognition
(spec/42_frame_and_validator.md section 4, R114).
-/

namespace Sys2Proof.Proofs

open Sys2Proof.Machine Sys2Proof.Laws

/-! ## Packing and unpacking (R102) -/

/-- Clearing bits 4 and 3 of a byte, as a number. -/
theorem clear_reserved_toNat : ∀ b : Byte, (b &&& 0xE7#8).toNat = b.toNat % 2 ^ 3 + b.toNat / 2 ^ 5 * 2 ^ 5 := by
  decide

/-- Clearing bits 4 and 3 leaves a byte as it is exactly when they are 0. -/
theorem clear_reserved_eq_self_iff : ∀ b : Byte, b &&& 0xE7#8 = b ↔ b &&& 0x18#8 = 0#8 := by
  decide

/-- Packing the two codes of a word of two bytes clears its reserved bits, which are bits 4 and 3 of the second
byte (R78, R100). -/
theorem packHeaderWord_of_codes (b0 b1 : Byte) :
    packHeaderWord ((headerManufacturer (wordOfBytes b0 b1)).setWidth 32)
      ((headerIndustry (wordOfBytes b0 b1)).setWidth 32) = wordOfBytes b0 (b1 &&& 0xE7#8) := by
  apply BitVec.eq_of_toNat_eq
  rw [packHeaderWord_toNat, ← mask_toNat, ← mask_toNat, mask_setWidth (by decide), mask_setWidth (by decide),
    headerManufacturer_toNat, headerIndustry_toNat, wordOfBytes_toNat, wordOfBytes_toNat, clear_reserved_toNat]
  omega

/-- Settles O22: a word is its two bytes and, but for the reserved bits, its two codes. -/
theorem headerRoundTrip : Obligations.HeaderRoundTrip := by
  refine ⟨fun aMfr aInd b0 b1 s hpack => ?_, fun b0 b1 m i s hunpack => ?_⟩
  · cases answers_unique hpack (packHdr_answers aMfr aInd s)
    have hcodes := unpackHdr_answers (n := 2) ((packHeaderWord aMfr aInd).extractLsb' 0 8)
      ((packHeaderWord aMfr aInd).extractLsb' 8 8) s (by decide)
    rwa [wordOfBytes_extract, packHeaderWord, headerManufacturer_joinHeaderWord,
      headerIndustry_joinHeaderWord] at hcodes
  · cases answers_unique hunpack (unpackHdr_answers b0 b1 s (by decide))
    have hpack := packHdr_answers ((headerManufacturer (wordOfBytes b0 b1)).setWidth 32)
      ((headerIndustry (wordOfBytes b0 b1)).setWidth 32) s
    rw [packHeaderWord_of_codes, extract_wordOfBytes_low, extract_wordOfBytes_high] at hpack
    refine ⟨hpack, fun hsame => ?_, fun hzero => ?_⟩
    · have hbytes := Result.headerBytes.inj (Response.ok.inj (answers_unique hpack hsame))
      exact (clear_reserved_eq_self_iff b1).1 hbytes.2
    · rwa [(clear_reserved_eq_self_iff b1).2 hzero] at hpack

/-! ## Recognition (R114) -/

/-- A Frame of at least 3 bytes is recognized by the codes of its first two lanes (R112). -/
theorem matchesRecognized_operandPayload {f : OperandFrame} (h : 3 ≤ f.fLen.toNat) :
    MatchesRecognized (operandPayload f) ↔
      headerManufacturer (wordOfBytes f.fData.d0 f.fData.d1) = Config.mfrCode ∧
        headerIndustry (wordOfBytes f.fData.d0 f.fData.d1) = Config.indCode := by
  obtain ⟨n, hn⟩ := Nat.exists_eq_add_of_le' h
  rw [operandPayload, hn]
  exact matchesRecognized_cons f.fData.d0 f.fData.d1 f.fData.d2 _

/-- A Frame of fewer than 3 bytes is not recognized (R112). -/
theorem not_matchesRecognized_of_short {f : OperandFrame} (h : f.fLen.toNat < 3) :
    ¬ MatchesRecognized (operandPayload f) := by
  have hlen : (operandPayload f).length ≤ f.fLen.toNat := List.length_take_le _ _
  exact fun hrec => absurd hrec.1 (by omega)

/-- `IS_RECOGNIZED` answers false where the payload is not recognized (R112). -/
theorem isRecognized_answers_false {f : OperandFrame} (s : State) (hle : f.fLen.toNat ≤ 8)
    (h : ¬ MatchesRecognized (operandPayload f)) : Answers (.isRecognized f) s (.ok (.recognized false)) := by
  have hans := isRecognized_answers s hle
  rwa [decide_eq_false h] at hans

/-- `IS_RECOGNIZED` answers true exactly where the payload is recognized (R112). -/
theorem isRecognized_answers_true_iff {f : OperandFrame} {s : State} (hle : f.fLen.toNat ≤ 8) :
    Answers (.isRecognized f) s (.ok (.recognized true)) ↔ MatchesRecognized (operandPayload f) := by
  have hans := isRecognized_answers s hle
  constructor
  · intro htrue
    have hresult := Result.recognized.inj (Response.ok.inj (answers_unique hans htrue))
    exact of_decide_eq_true hresult
  · intro hrec
    rwa [decide_eq_true hrec] at hans

/-- `UNPACK_HDR` is `OK` only with the codes of the word of its two bytes (R101). -/
theorem codes_of_unpackHdr_ok {n : Len} {b0 b1 : Byte} {m : ManufacturerCode} {i : IndustryCode} {s : State}
    (h : Answers (.unpackHdr n b0 b1) s (.ok (.codes m i))) :
    m = headerManufacturer (wordOfBytes b0 b1) ∧ i = headerIndustry (wordOfBytes b0 b1) := by
  rcases Nat.lt_or_ge n.toNat 2 with hlt | hge
  · cases answers_unique h (unpackHdr_answers_short b0 b1 s hlt)
  · cases answers_unique h (unpackHdr_answers b0 b1 s hge)
    exact ⟨rfl, rfl⟩

/-- Settles O28: below 3 bytes nothing is recognized, and from 3 on recognition compares the two codes that
`UNPACK_HDR` gives. -/
theorem recognitionProperties : Obligations.RecognitionProperties := by
  intro f s hle
  refine ⟨fun hshort => ?_, fun m i hcodes => ?_⟩
  · have hnot := not_matchesRecognized_of_short hshort
    exact ⟨isRecognized_answers_false s hle hnot, kindOf_answers_absent s hle hnot⟩
  · obtain ⟨rfl, rfl⟩ := codes_of_unpackHdr_ok hcodes
    refine ⟨fun hother => isRecognized_answers_false s hle ?_, fun hlong =>
      (isRecognized_answers_true_iff hle).trans (matchesRecognized_operandPayload hlong)⟩
    rcases Nat.lt_or_ge f.fLen.toNat 3 with hshort | hlong
    · exact not_matchesRecognized_of_short hshort
    · exact mt (matchesRecognized_operandPayload hlong).1 hother

end Sys2Proof.Proofs
end

section
/-!
The laws of the encoders (spec/43_message_encoders.md section 3): an encoder's Frame, presented again, is
decoded to the encoded fields (R125), is absent to the other decoders, and is dispatched to its own (R126).
-/

namespace Sys2Proof.Proofs

open Sys2Proof.Machine Sys2Proof.Laws

/-! ## An encoder's Frame presented to its own decoder (R125) -/

/-- The payload of an encoder is a recognized payload of its kind (R63, R120). -/
theorem matchesKind_encodeFrame (kind : Byte) (aSrc aDst : Arg) (fields : List Arg) (reserved : Bool) :
    MatchesKind kind (encodeFrame kind aSrc aDst fields reserved).payload := by
  have hheader : [0xE8#8, 0x85#8] = recognizedHeader 0 := rfl
  rw [encodeFrame_eq, List.append_assoc]
  exact matchesKind_recognizedPayload 0 kind _

/-- The length port of a Frame presented again carries the length of its payload (R35). -/
theorem presentFrame_fLen_toNat {fr : Frame} (h : fr.payload.length ≤ 8) :
    (presentFrame fr).fLen.toNat = fr.payload.length := by
  simp [presentFrame]; omega

/-- A decoder answers the Message of the bytes to a Frame presented again, if it is of its kind and long
enough (R130). -/
theorem decoder_answers_presentFrame {op : OpCode} {c : OperandFrame → Instr} {k : Byte} {len : Nat}
    {msg : Lanes → Message} (hdec : DecoderResult op c k len msg) {fr : Frame} (s : State)
    (hkind : MatchesKind k fr.payload) (hlen : len ≤ fr.payload.length) (hmax : fr.payload.length ≤ 8) :
    Answers (c (presentFrame fr)) s (.ok (.message (msg (lanesOfPayload fr.payload)))) := by
  obtain ⟨-, -, hresult⟩ := hdec
  have hport := presentFrame_fLen_toNat hmax
  refine (hresult (presentFrame fr) s (by omega)).1 ⟨?_, by omega⟩
  rwa [operandPayload_presentFrame hmax]

/-- The decoder of an encoder's kind answers the Message of the encoded bytes (R125). -/
theorem decoder_answers_encodeFrame {op : OpCode} {c : OperandFrame → Instr} {k : Byte} {len : Nat}
    {msg : Lanes → Message} (hdec : DecoderResult op c k len msg) (aSrc aDst : Arg) {fields : List Arg}
    {reserved : Bool} (s : State) (hlen : len ≤ 3 + fields.length + reserved.toNat)
    (hmax : 3 + fields.length + reserved.toNat ≤ 8) :
    Answers (c (presentFrame (encodeFrame k aSrc aDst fields reserved))) s
      (.ok (.message (msg (lanesOfPayload (encodeFrame k aSrc aDst fields reserved).payload)))) := by
  rw [← encodeFrame_payload_length k aSrc aDst fields reserved] at hlen hmax
  exact decoder_answers_presentFrame hdec s (matchesKind_encodeFrame k aSrc aDst fields reserved) hlen hmax

/-- Settles O36: each encoder's Frame is of its decoder's kind and length, and the lanes from 3 on are the
masked fields. -/
theorem decodeOfEncodedFrame : Obligations.DecodeOfEncodedFrame := by
  intro aSrc aDst a b c d e fr s
  refine ⟨fun hfr => ?_, fun hfr => ?_, fun hfr => ?_, fun hfr => ?_⟩
  · cases answers_unique hfr (encSimpleAction_answers aSrc aDst a b s)
    exact decoder_answers_encodeFrame (msg := fun l => .simpleAction ⟨1512, 4, 1⟩ l.d3 l.d4)
      decSimpleActionResult aSrc aDst s (by simp) (by simp)
  · cases answers_unique hfr (encStateInfo_answers aSrc a b c s)
    exact decoder_answers_encodeFrame (msg := fun l => .stateInfo ⟨1512, 4, 2⟩ l.d3 l.d4 l.d5)
      decStateInfoResult aSrc 255 s (by simp) (by simp)
  · cases answers_unique hfr (encCustomHsb_answers aSrc aDst a b c d e s)
    exact decoder_answers_encodeFrame (msg := fun l => .customHsb ⟨1512, 4, 3⟩ l.d3 l.d4 l.d5 l.d6 l.d7)
      decCustomHsbResult aSrc aDst s (by simp) (by simp)
  · cases answers_unique hfr (encStartPattern_answers aSrc aDst a b s)
    exact decoder_answers_encodeFrame (msg := fun l => .startPattern ⟨1512, 4, 4⟩ l.d3 l.d4)
      decStartPatternResult aSrc aDst s (by simp) (by simp)

/-! ## An encoder's Frame presented to the other decoders and to the dispatcher (R126) -/

/-- A decoding operation is `ABSENT` for a payload of another kind (R130). -/
theorem decoderOp_absent_of_otherKind {f : OperandFrame} {k : Byte} (s : State) (hle : f.fLen.toNat ≤ 8)
    (hk : MatchesKind k (operandPayload f)) : ∀ q ∈ decoderOps, q.1 ≠ k → Answers (q.2 f) s .absent := by
  intro q hq hne
  obtain ⟨d, hd, hexec⟩ := exec_decoderOp q hq
  rw [Answers, hexec]
  exact withFrame_answerMessage_absent s hle
    (kindDecoders_absent _ hd fun hmatch => hne (matchesKind_unique hmatch hk))

/-- An encoder's Frame, presented again, is `ABSENT` to every decoding operation of another kind than its own
(R126). -/
theorem otherDecoders_absent {i : Instr} {s : State} {fr : Frame} {kind : Byte} {aSrc aDst : Arg}
    {fields : List Arg} {reserved : Bool} (hfr : Answers i s (.ok (.frame fr)))
    (henc : Answers i s (.ok (.frame (encodeFrame kind aSrc aDst fields reserved))))
    (hmax : 3 + fields.length + reserved.toNat ≤ 8) :
    (1 ≠ kind → Answers (.decSimpleAction (presentFrame fr)) s .absent) ∧
    (2 ≠ kind → Answers (.decStateInfo (presentFrame fr)) s .absent) ∧
    (3 ≠ kind → Answers (.decCustomHsb (presentFrame fr)) s .absent) ∧
    (4 ≠ kind → Answers (.decStartPattern (presentFrame fr)) s .absent) := by
  rw [← encodeFrame_payload_length kind aSrc aDst fields reserved] at hmax
  have hkind := matchesKind_encodeFrame kind aSrc aDst fields reserved
  cases answers_unique hfr henc
  rw [← operandPayload_presentFrame hmax] at hkind
  exact (forall_decoderOps (P := fun k c => k ≠ kind → Answers (c (presentFrame _)) s .absent)).1
    (decoderOp_absent_of_otherKind s ((presentFrame_fLen_toNat hmax).trans_le hmax) hkind)

/-- Settles O37: the three other decoders are of other kinds, and `PARSE_ANY` is `OK` where the own decoder
is. -/
theorem crossKindAbsentAndDispatched : Obligations.CrossKindAbsentAndDispatched := by
  intro aSrc aDst a b c d e fr s
  obtain ⟨hsa, hsi, hhsb, hsp⟩ := decodeOfEncodedFrame aSrc aDst a b c d e fr s
  refine ⟨fun hfr => ?_, fun hfr => ?_, fun hfr => ?_, fun hfr => ?_⟩
  · obtain ⟨-, h2, h3, h4⟩ := otherDecoders_absent hfr (encSimpleAction_answers aSrc aDst a b s) (by simp)
    exact ⟨h2 (by decide), h3 (by decide), h4 (by decide), _, _, _,
      parseAny_ok_iff.2 ⟨(1, .decSimpleAction), by simp [decoderOps], hsa hfr⟩⟩
  · obtain ⟨h1, -, h3, h4⟩ := otherDecoders_absent hfr (encStateInfo_answers aSrc a b c s) (by simp)
    exact ⟨h1 (by decide), h3 (by decide), h4 (by decide), _, _, _, _,
      parseAny_ok_iff.2 ⟨(2, .decStateInfo), by simp [decoderOps], hsi hfr⟩⟩
  · obtain ⟨h1, h2, -, h4⟩ := otherDecoders_absent hfr (encCustomHsb_answers aSrc aDst a b c d e s) (by simp)
    exact ⟨h1 (by decide), h2 (by decide), h4 (by decide), _, _, _, _, _, _,
      parseAny_ok_iff.2 ⟨(3, .decCustomHsb), by simp [decoderOps], hhsb hfr⟩⟩
  · obtain ⟨h1, h2, h3, -⟩ := otherDecoders_absent hfr (encStartPattern_answers aSrc aDst a b s) (by simp)
    exact ⟨h1 (by decide), h2 (by decide), h3 (by decide), _, _, _,
      parseAny_ok_iff.2 ⟨(4, .decStartPattern), by simp [decoderOps], hsp hfr⟩⟩

end Sys2Proof.Proofs
end

section
/-!
The base case of `StepKeepsSafe` (spec/70_reset_and_hazards.md, log entry 1).
-/

namespace Sys2Proof.Proofs

open Sys2Proof.Machine

/-- Settles O11: nothing has been answered and nothing stands on the ports. -/
theorem resetIsSafe : Obligations.ResetIsSafe :=
  ⟨fun _ hr => absurd hr List.not_mem_nil, fun _ hr => nomatch hr⟩

end Sys2Proof.Proofs
end
